-- ==== Sys2Proof/Word.lean ====
section
/-! DEFINITION. The two word sizes of the CPU bus (00_scope.md R8, R11): the data byte and the address word. -/

namespace Sys2Proof

/-- A byte: the width of the data bus and of A, X, Y and SP (00_scope.md R8). -/
abbrev Byte := BitVec 8

/-- A 16-bit word: PC and every CPU address (00_scope.md R8). -/
abbrev Word := BitVec 16

/-- A 24-bit RGB value, one framebuffer pixel (61_ppu.md R955). -/
abbrev Rgb := BitVec 24

end Sys2Proof
end

