-- ==== Sys2Proof/Config.lean ====
section
/-! DEFINITION. What an implementation fixes and what the spec leaves free (00_scope.md R10): the plain-data
parameters, as a structure that State holds, and the free values, as constants with no body. -/

namespace Sys2Proof

/-- Parameter `BgLatchFetches` (92_eei_decisions.md D30): whether the two prefetch tiles at dots 321–336 are
reported to a CHR latch (34 fetches) or not (32). -/
inductive BgLatchFetches where
  | fetches34
  | fetches32
deriving DecidableEq, Repr

/-- The parameters of 00_scope.md R10 that are plain data, fixed while the block runs. A state carries them, so a
statement about every state holds for every value of them. Log 5. -/
structure Params where
  /-- `NmiOnLateEnable` (D11; 61_ppu.md R936). -/
  nmiOnLateEnable : Bool
  /-- `BgLatchFetches` (D30; 61_ppu.md R946). -/
  bgLatchFetches : BgLatchFetches
  /-- `Spr0XMinClipped` (D31; 61_ppu.md R954). -/
  spr0XMinClipped : Nat
  /-- `SampleRate` (D45; 62_apu_io.md R1092). -/
  sampleRate : Nat
  /-- `CpuClockHz` (D66; 62_apu_io.md R1092). -/
  cpuClockHz : Nat
deriving DecidableEq, Repr

/-- The spec's defaults (D30: 34, D31: 1, D45: 44100, D66: 1789773). DESIGN CHOICE (log 5): `NmiOnLateEnable` has no
default; false is the source's text. -/
def Params.default : Params where
  nmiOnLateEnable := false
  bgLatchFetches := .fetches34
  spr0XMinClipped := 1
  sampleRate := 44100
  cpuClockHz := 1789773

/-- FREE VALUE `OpenBus` (D18): what the n-th undriven read of a run returns. Log 1. -/
opaque Config.openBus : Nat → Byte

/-- FREE VALUE: the low plane a sprite unit loads when its low-plane fetch was not made, at the n-th draw of a run
(61_ppu.md R951). Log 15. -/
opaque Config.spriteLow : Nat → Byte

/-- FREE VALUE `CtrlTail` (D46; 62_apu_io.md R1081): bit 0 of controller read number k ≥ 8 after a latch. Log 2. -/
opaque Config.ctrlTail : Nat → Bool

/-- FREE VALUE `MasterPalette` (D40; 61_ppu.md R955): 64 master entries, 8 emphasis variants. Log 3. -/
opaque Config.masterPalette : BitVec 6 → BitVec 3 → Rgb

/-- FREE VALUE `MixNumerics` (D44; 62_apu_io.md R1091): the rounding of one arithmetic operation on reals of the mixer, the
resampler and the DC block, as a function of that operation's exact result. Log 4. -/
opaque Config.mixNumerics : Rat → Rat

end Sys2Proof
end

