-- ==== Sys2Proof/Syntax.lean ====
section
/-! DEFINITION. The instruction set as syntax: the 70 mnemonics (00_scope.md R3), the thirteen addressing modes
(30_encoding.md R301), and `Instr`, one constructor per row of spec/opcode_table.json (229 opcodes, R305). -/

namespace Sys2Proof

/-- The mnemonics of 00_scope.md R3: 56 official, then 14 unofficial. -/
inductive Mnemonic where
  | lda | ldx | ldy | sta | stx | sty | tax | tay | tsx | txa | txs | tya | adc | sbc
  | cmp | cpx | cpy | inc | dec | inx | iny | dex | dey | and | ora | eor | bit | asl
  | lsr | rol | ror | jmp | jsr | rts | bcc | bcs | beq | bmi | bne | bpl | bvc | bvs
  | pha | php | pla | plp | clc | cld | cli | clv | sec | sed | sei | nop | brk | rti
  | alr | anc | arr | axs | lax | sax | dcp | isc | rla | rra | slo | sre | skb | ign
deriving DecidableEq, Repr

/-- The eight addressing modes with an effective address for a data access, with their operand bytes
(40_addressing.md R406–R411, R413, R414). A two-byte operand is the word `hi:lo` of R303. -/
inductive MemMode where
  | zp (b1 : Byte)
  | zpx (b1 : Byte)
  | zpy (b1 : Byte)
  | abs (w : Word)
  | absx (w : Word)
  | absy (w : Word)
  | indx (b1 : Byte)
  | indy (b1 : Byte)
deriving DecidableEq, Repr

/-- An operand as 30_encoding.md R301 lists the formats: implied, accumulator, immediate, a memory mode, indirect
(JMP only) or relative. -/
inductive Operand where
  | imp
  | acc
  | imm (b1 : Byte)
  | mem (m : MemMode)
  | ind (w : Word)
  | rel (b1 : Byte)
deriving DecidableEq, Repr

/-- The thirteen mode tags of 30_encoding.md R301. -/
inductive Mode where
  | imp | acc | imm | zp | zpx | zpy | abs | absx | absy | ind | indx | indy | rel
deriving DecidableEq, Repr

/-- The mode tag of an operand. -/
def Operand.mode : Operand → Mode
  | .imp => .imp
  | .acc => .acc
  | .imm _ => .imm
  | .mem (.zp _) => .zp
  | .mem (.zpx _) => .zpx
  | .mem (.zpy _) => .zpy
  | .mem (.abs _) => .abs
  | .mem (.absx _) => .absx
  | .mem (.absy _) => .absy
  | .mem (.indx _) => .indx
  | .mem (.indy _) => .indy
  | .ind _ => .ind
  | .rel _ => .rel

/-- The operand byte, or the operand word (low byte first in the encoding, 30_encoding.md R303). -/
inductive OperandBytes where
  | none
  | one (b1 : Byte)
  | two (w : Word)
deriving DecidableEq, Repr

/-- The bytes an operand takes after the opcode (30_encoding.md R301). -/
def Operand.bytes : Operand → OperandBytes
  | .imp | .acc => .none
  | .imm b1 | .rel b1 => .one b1
  | .mem (.zp b1) | .mem (.zpx b1) | .mem (.zpy b1) | .mem (.indx b1) | .mem (.indy b1) => .one b1
  | .mem (.abs w) | .mem (.absx w) | .mem (.absy w) | .ind w => .two w

/-- One constructor per row of spec/opcode_table.json, in opcode order. The name is the mnemonic and the mode tag; where
a mnemonic has several opcodes of one mode, also the opcode. `b1` is the operand byte, `w` the operand word. -/
inductive Instr where
  | brk
  | oraIndx (b1 : Byte)
  | sloIndx (b1 : Byte)
  | ignZp04 (b1 : Byte)
  | oraZp (b1 : Byte)
  | aslZp (b1 : Byte)
  | sloZp (b1 : Byte)
  | php
  | oraImm (b1 : Byte)
  | aslAcc
  | ancImm0B (b1 : Byte)
  | ignAbs (w : Word)
  | oraAbs (w : Word)
  | aslAbs (w : Word)
  | sloAbs (w : Word)
  | bpl (b1 : Byte)
  | oraIndy (b1 : Byte)
  | sloIndy (b1 : Byte)
  | ignZpx14 (b1 : Byte)
  | oraZpx (b1 : Byte)
  | aslZpx (b1 : Byte)
  | sloZpx (b1 : Byte)
  | clc
  | oraAbsy (w : Word)
  | sloAbsy (w : Word)
  | ignAbsx1C (w : Word)
  | oraAbsx (w : Word)
  | aslAbsx (w : Word)
  | sloAbsx (w : Word)
  | jsrAbs (w : Word)
  | andIndx (b1 : Byte)
  | rlaIndx (b1 : Byte)
  | bitZp (b1 : Byte)
  | andZp (b1 : Byte)
  | rolZp (b1 : Byte)
  | rlaZp (b1 : Byte)
  | plp
  | andImm (b1 : Byte)
  | rolAcc
  | ancImm2B (b1 : Byte)
  | bitAbs (w : Word)
  | andAbs (w : Word)
  | rolAbs (w : Word)
  | rlaAbs (w : Word)
  | bmi (b1 : Byte)
  | andIndy (b1 : Byte)
  | rlaIndy (b1 : Byte)
  | ignZpx34 (b1 : Byte)
  | andZpx (b1 : Byte)
  | rolZpx (b1 : Byte)
  | rlaZpx (b1 : Byte)
  | sec
  | andAbsy (w : Word)
  | rlaAbsy (w : Word)
  | ignAbsx3C (w : Word)
  | andAbsx (w : Word)
  | rolAbsx (w : Word)
  | rlaAbsx (w : Word)
  | rti
  | eorIndx (b1 : Byte)
  | sreIndx (b1 : Byte)
  | ignZp44 (b1 : Byte)
  | eorZp (b1 : Byte)
  | lsrZp (b1 : Byte)
  | sreZp (b1 : Byte)
  | pha
  | eorImm (b1 : Byte)
  | lsrAcc
  | alrImm (b1 : Byte)
  | jmpAbs (w : Word)
  | eorAbs (w : Word)
  | lsrAbs (w : Word)
  | sreAbs (w : Word)
  | bvc (b1 : Byte)
  | eorIndy (b1 : Byte)
  | sreIndy (b1 : Byte)
  | ignZpx54 (b1 : Byte)
  | eorZpx (b1 : Byte)
  | lsrZpx (b1 : Byte)
  | sreZpx (b1 : Byte)
  | cli
  | eorAbsy (w : Word)
  | sreAbsy (w : Word)
  | ignAbsx5C (w : Word)
  | eorAbsx (w : Word)
  | lsrAbsx (w : Word)
  | sreAbsx (w : Word)
  | rts
  | adcIndx (b1 : Byte)
  | rraIndx (b1 : Byte)
  | ignZp64 (b1 : Byte)
  | adcZp (b1 : Byte)
  | rorZp (b1 : Byte)
  | rraZp (b1 : Byte)
  | pla
  | adcImm (b1 : Byte)
  | rorAcc
  | arrImm (b1 : Byte)
  | jmpInd (w : Word)
  | adcAbs (w : Word)
  | rorAbs (w : Word)
  | rraAbs (w : Word)
  | bvs (b1 : Byte)
  | adcIndy (b1 : Byte)
  | rraIndy (b1 : Byte)
  | ignZpx74 (b1 : Byte)
  | adcZpx (b1 : Byte)
  | rorZpx (b1 : Byte)
  | rraZpx (b1 : Byte)
  | sei
  | adcAbsy (w : Word)
  | rraAbsy (w : Word)
  | ignAbsx7C (w : Word)
  | adcAbsx (w : Word)
  | rorAbsx (w : Word)
  | rraAbsx (w : Word)
  | skbImm80 (b1 : Byte)
  | staIndx (b1 : Byte)
  | skbImm82 (b1 : Byte)
  | saxIndx (b1 : Byte)
  | styZp (b1 : Byte)
  | staZp (b1 : Byte)
  | stxZp (b1 : Byte)
  | saxZp (b1 : Byte)
  | dey
  | skbImm89 (b1 : Byte)
  | txa
  | styAbs (w : Word)
  | staAbs (w : Word)
  | stxAbs (w : Word)
  | saxAbs (w : Word)
  | bcc (b1 : Byte)
  | staIndy (b1 : Byte)
  | styZpx (b1 : Byte)
  | staZpx (b1 : Byte)
  | stxZpy (b1 : Byte)
  | saxZpy (b1 : Byte)
  | tya
  | staAbsy (w : Word)
  | txs
  | staAbsx (w : Word)
  | ldyImm (b1 : Byte)
  | ldaIndx (b1 : Byte)
  | ldxImm (b1 : Byte)
  | laxIndx (b1 : Byte)
  | ldyZp (b1 : Byte)
  | ldaZp (b1 : Byte)
  | ldxZp (b1 : Byte)
  | laxZp (b1 : Byte)
  | tay
  | ldaImm (b1 : Byte)
  | tax
  | ldyAbs (w : Word)
  | ldaAbs (w : Word)
  | ldxAbs (w : Word)
  | laxAbs (w : Word)
  | bcs (b1 : Byte)
  | ldaIndy (b1 : Byte)
  | laxIndy (b1 : Byte)
  | ldyZpx (b1 : Byte)
  | ldaZpx (b1 : Byte)
  | ldxZpy (b1 : Byte)
  | laxZpy (b1 : Byte)
  | clv
  | ldaAbsy (w : Word)
  | tsx
  | ldyAbsx (w : Word)
  | ldaAbsx (w : Word)
  | ldxAbsy (w : Word)
  | laxAbsy (w : Word)
  | cpyImm (b1 : Byte)
  | cmpIndx (b1 : Byte)
  | skbImmC2 (b1 : Byte)
  | dcpIndx (b1 : Byte)
  | cpyZp (b1 : Byte)
  | cmpZp (b1 : Byte)
  | decZp (b1 : Byte)
  | dcpZp (b1 : Byte)
  | iny
  | cmpImm (b1 : Byte)
  | dex
  | axsImm (b1 : Byte)
  | cpyAbs (w : Word)
  | cmpAbs (w : Word)
  | decAbs (w : Word)
  | dcpAbs (w : Word)
  | bne (b1 : Byte)
  | cmpIndy (b1 : Byte)
  | dcpIndy (b1 : Byte)
  | ignZpxD4 (b1 : Byte)
  | cmpZpx (b1 : Byte)
  | decZpx (b1 : Byte)
  | dcpZpx (b1 : Byte)
  | cld
  | cmpAbsy (w : Word)
  | dcpAbsy (w : Word)
  | ignAbsxDC (w : Word)
  | cmpAbsx (w : Word)
  | decAbsx (w : Word)
  | dcpAbsx (w : Word)
  | cpxImm (b1 : Byte)
  | sbcIndx (b1 : Byte)
  | skbImmE2 (b1 : Byte)
  | iscIndx (b1 : Byte)
  | cpxZp (b1 : Byte)
  | sbcZp (b1 : Byte)
  | incZp (b1 : Byte)
  | iscZp (b1 : Byte)
  | inx
  | sbcImm (b1 : Byte)
  | nop
  | cpxAbs (w : Word)
  | sbcAbs (w : Word)
  | incAbs (w : Word)
  | iscAbs (w : Word)
  | beq (b1 : Byte)
  | sbcIndy (b1 : Byte)
  | iscIndy (b1 : Byte)
  | ignZpxF4 (b1 : Byte)
  | sbcZpx (b1 : Byte)
  | incZpx (b1 : Byte)
  | iscZpx (b1 : Byte)
  | sed
  | sbcAbsy (w : Word)
  | iscAbsy (w : Word)
  | ignAbsxFC (w : Word)
  | sbcAbsx (w : Word)
  | incAbsx (w : Word)
  | iscAbsx (w : Word)
deriving DecidableEq, Repr

/-- The mnemonic of each row of the opcode table. -/
def Instr.mnemonic : Instr → Mnemonic
  | .ldaIndx _ | .ldaZp _ | .ldaImm _ | .ldaAbs _ | .ldaIndy _ | .ldaZpx _ | .ldaAbsy _ | .ldaAbsx _
    => .lda
  | .ldxImm _ | .ldxZp _ | .ldxAbs _ | .ldxZpy _ | .ldxAbsy _ => .ldx
  | .ldyImm _ | .ldyZp _ | .ldyAbs _ | .ldyZpx _ | .ldyAbsx _ => .ldy
  | .staIndx _ | .staZp _ | .staAbs _ | .staIndy _ | .staZpx _ | .staAbsy _ | .staAbsx _ => .sta
  | .stxZp _ | .stxAbs _ | .stxZpy _ => .stx
  | .styZp _ | .styAbs _ | .styZpx _ => .sty
  | .tax => .tax
  | .tay => .tay
  | .tsx => .tsx
  | .txa => .txa
  | .txs => .txs
  | .tya => .tya
  | .adcIndx _ | .adcZp _ | .adcImm _ | .adcAbs _ | .adcIndy _ | .adcZpx _ | .adcAbsy _ | .adcAbsx _
    => .adc
  | .sbcIndx _ | .sbcZp _ | .sbcImm _ | .sbcAbs _ | .sbcIndy _ | .sbcZpx _ | .sbcAbsy _ | .sbcAbsx _
    => .sbc
  | .cmpIndx _ | .cmpZp _ | .cmpImm _ | .cmpAbs _ | .cmpIndy _ | .cmpZpx _ | .cmpAbsy _ | .cmpAbsx _
    => .cmp
  | .cpxImm _ | .cpxZp _ | .cpxAbs _ => .cpx
  | .cpyImm _ | .cpyZp _ | .cpyAbs _ => .cpy
  | .incZp _ | .incAbs _ | .incZpx _ | .incAbsx _ => .inc
  | .decZp _ | .decAbs _ | .decZpx _ | .decAbsx _ => .dec
  | .inx => .inx
  | .iny => .iny
  | .dex => .dex
  | .dey => .dey
  | .andIndx _ | .andZp _ | .andImm _ | .andAbs _ | .andIndy _ | .andZpx _ | .andAbsy _ | .andAbsx _
    => .and
  | .oraIndx _ | .oraZp _ | .oraImm _ | .oraAbs _ | .oraIndy _ | .oraZpx _ | .oraAbsy _ | .oraAbsx _
    => .ora
  | .eorIndx _ | .eorZp _ | .eorImm _ | .eorAbs _ | .eorIndy _ | .eorZpx _ | .eorAbsy _ | .eorAbsx _
    => .eor
  | .bitZp _ | .bitAbs _ => .bit
  | .aslZp _ | .aslAcc | .aslAbs _ | .aslZpx _ | .aslAbsx _ => .asl
  | .lsrZp _ | .lsrAcc | .lsrAbs _ | .lsrZpx _ | .lsrAbsx _ => .lsr
  | .rolZp _ | .rolAcc | .rolAbs _ | .rolZpx _ | .rolAbsx _ => .rol
  | .rorZp _ | .rorAcc | .rorAbs _ | .rorZpx _ | .rorAbsx _ => .ror
  | .jmpAbs _ | .jmpInd _ => .jmp
  | .jsrAbs _ => .jsr
  | .rts => .rts
  | .bcc _ => .bcc
  | .bcs _ => .bcs
  | .beq _ => .beq
  | .bmi _ => .bmi
  | .bne _ => .bne
  | .bpl _ => .bpl
  | .bvc _ => .bvc
  | .bvs _ => .bvs
  | .pha => .pha
  | .php => .php
  | .pla => .pla
  | .plp => .plp
  | .clc => .clc
  | .cld => .cld
  | .cli => .cli
  | .clv => .clv
  | .sec => .sec
  | .sed => .sed
  | .sei => .sei
  | .nop => .nop
  | .brk => .brk
  | .rti => .rti
  | .alrImm _ => .alr
  | .ancImm0B _ | .ancImm2B _ => .anc
  | .arrImm _ => .arr
  | .axsImm _ => .axs
  | .laxIndx _ | .laxZp _ | .laxAbs _ | .laxIndy _ | .laxZpy _ | .laxAbsy _ => .lax
  | .saxIndx _ | .saxZp _ | .saxAbs _ | .saxZpy _ => .sax
  | .dcpIndx _ | .dcpZp _ | .dcpAbs _ | .dcpIndy _ | .dcpZpx _ | .dcpAbsy _ | .dcpAbsx _ => .dcp
  | .iscIndx _ | .iscZp _ | .iscAbs _ | .iscIndy _ | .iscZpx _ | .iscAbsy _ | .iscAbsx _ => .isc
  | .rlaIndx _ | .rlaZp _ | .rlaAbs _ | .rlaIndy _ | .rlaZpx _ | .rlaAbsy _ | .rlaAbsx _ => .rla
  | .rraIndx _ | .rraZp _ | .rraAbs _ | .rraIndy _ | .rraZpx _ | .rraAbsy _ | .rraAbsx _ => .rra
  | .sloIndx _ | .sloZp _ | .sloAbs _ | .sloIndy _ | .sloZpx _ | .sloAbsy _ | .sloAbsx _ => .slo
  | .sreIndx _ | .sreZp _ | .sreAbs _ | .sreIndy _ | .sreZpx _ | .sreAbsy _ | .sreAbsx _ => .sre
  | .skbImm80 _ | .skbImm82 _ | .skbImm89 _ | .skbImmC2 _ | .skbImmE2 _ => .skb
  | .ignZp04 _ | .ignAbs _ | .ignZpx14 _ | .ignAbsx1C _ | .ignZpx34 _ | .ignAbsx3C _ | .ignZp44 _
  | .ignZpx54 _ | .ignAbsx5C _ | .ignZp64 _ | .ignZpx74 _ | .ignAbsx7C _ | .ignZpxD4 _ | .ignAbsxDC _
  | .ignZpxF4 _ | .ignAbsxFC _ => .ign

/-- The operand of each row of the opcode table, in its addressing mode. -/
def Instr.operand : Instr → Operand
  | .brk | .php | .clc | .plp | .sec | .rti | .pha | .cli | .rts | .pla | .sei | .dey | .txa | .tya
  | .txs | .tay | .tax | .clv | .tsx | .iny | .dex | .cld | .inx | .nop | .sed => .imp
  | .aslAcc | .rolAcc | .lsrAcc | .rorAcc => .acc
  | .oraImm b1 | .ancImm0B b1 | .andImm b1 | .ancImm2B b1 | .eorImm b1 | .alrImm b1 | .adcImm b1
  | .arrImm b1 | .skbImm80 b1 | .skbImm82 b1 | .skbImm89 b1 | .ldyImm b1 | .ldxImm b1 | .ldaImm b1
  | .cpyImm b1 | .skbImmC2 b1 | .cmpImm b1 | .axsImm b1 | .cpxImm b1 | .skbImmE2 b1 | .sbcImm b1
    => .imm b1
  | .ignZp04 b1 | .oraZp b1 | .aslZp b1 | .sloZp b1 | .bitZp b1 | .andZp b1 | .rolZp b1 | .rlaZp b1
  | .ignZp44 b1 | .eorZp b1 | .lsrZp b1 | .sreZp b1 | .ignZp64 b1 | .adcZp b1 | .rorZp b1 | .rraZp b1
  | .styZp b1 | .staZp b1 | .stxZp b1 | .saxZp b1 | .ldyZp b1 | .ldaZp b1 | .ldxZp b1 | .laxZp b1
  | .cpyZp b1 | .cmpZp b1 | .decZp b1 | .dcpZp b1 | .cpxZp b1 | .sbcZp b1 | .incZp b1 | .iscZp b1
    => .mem (.zp b1)
  | .ignZpx14 b1 | .oraZpx b1 | .aslZpx b1 | .sloZpx b1 | .ignZpx34 b1 | .andZpx b1 | .rolZpx b1
  | .rlaZpx b1 | .ignZpx54 b1 | .eorZpx b1 | .lsrZpx b1 | .sreZpx b1 | .ignZpx74 b1 | .adcZpx b1
  | .rorZpx b1 | .rraZpx b1 | .styZpx b1 | .staZpx b1 | .ldyZpx b1 | .ldaZpx b1 | .ignZpxD4 b1 | .cmpZpx b1
  | .decZpx b1 | .dcpZpx b1 | .ignZpxF4 b1 | .sbcZpx b1 | .incZpx b1 | .iscZpx b1 => .mem (.zpx b1)
  | .stxZpy b1 | .saxZpy b1 | .ldxZpy b1 | .laxZpy b1 => .mem (.zpy b1)
  | .ignAbs w | .oraAbs w | .aslAbs w | .sloAbs w | .jsrAbs w | .bitAbs w | .andAbs w | .rolAbs w
  | .rlaAbs w | .jmpAbs w | .eorAbs w | .lsrAbs w | .sreAbs w | .adcAbs w | .rorAbs w | .rraAbs w
  | .styAbs w | .staAbs w | .stxAbs w | .saxAbs w | .ldyAbs w | .ldaAbs w | .ldxAbs w | .laxAbs w
  | .cpyAbs w | .cmpAbs w | .decAbs w | .dcpAbs w | .cpxAbs w | .sbcAbs w | .incAbs w | .iscAbs w
    => .mem (.abs w)
  | .ignAbsx1C w | .oraAbsx w | .aslAbsx w | .sloAbsx w | .ignAbsx3C w | .andAbsx w | .rolAbsx w
  | .rlaAbsx w | .ignAbsx5C w | .eorAbsx w | .lsrAbsx w | .sreAbsx w | .ignAbsx7C w | .adcAbsx w
  | .rorAbsx w | .rraAbsx w | .staAbsx w | .ldyAbsx w | .ldaAbsx w | .ignAbsxDC w | .cmpAbsx w | .decAbsx w
  | .dcpAbsx w | .ignAbsxFC w | .sbcAbsx w | .incAbsx w | .iscAbsx w => .mem (.absx w)
  | .oraAbsy w | .sloAbsy w | .andAbsy w | .rlaAbsy w | .eorAbsy w | .sreAbsy w | .adcAbsy w | .rraAbsy w
  | .staAbsy w | .ldaAbsy w | .ldxAbsy w | .laxAbsy w | .cmpAbsy w | .dcpAbsy w | .sbcAbsy w | .iscAbsy w
    => .mem (.absy w)
  | .jmpInd w => .ind w
  | .oraIndx b1 | .sloIndx b1 | .andIndx b1 | .rlaIndx b1 | .eorIndx b1 | .sreIndx b1 | .adcIndx b1
  | .rraIndx b1 | .staIndx b1 | .saxIndx b1 | .ldaIndx b1 | .laxIndx b1 | .cmpIndx b1 | .dcpIndx b1
  | .sbcIndx b1 | .iscIndx b1 => .mem (.indx b1)
  | .oraIndy b1 | .sloIndy b1 | .andIndy b1 | .rlaIndy b1 | .eorIndy b1 | .sreIndy b1 | .adcIndy b1
  | .rraIndy b1 | .staIndy b1 | .ldaIndy b1 | .laxIndy b1 | .cmpIndy b1 | .dcpIndy b1 | .sbcIndy b1
  | .iscIndy b1 => .mem (.indy b1)
  | .bpl b1 | .bmi b1 | .bvc b1 | .bvs b1 | .bcc b1 | .bcs b1 | .bne b1 | .beq b1 => .rel b1

end Sys2Proof
end

