-- ==== Sys2Proof/Machine/State.lean ====
section
/-! DEFINITION. The state of the block: CPU (10_state.md), PPU (61_ppu.md R900–R906), APU and controller ports
(62_apu_io.md R1000, R1080), cartridge and mapper (63_mappers.md), the reasons a step can stop, and the state at power-on
(70_reset_and_hazards.md R1300, R1301). Everything is plain data. -/

namespace Sys2Proof.Machine

/-- Sparse storage: (index, value) pairs with rising indexes; an index that is not listed holds 0. Log 7. -/
abbrev Store (w : Nat) := List (Nat × BitVec w)

/-- Byte storage: `List Host.Cell` (`Host.Cell` is `Nat × BitVec 8`). -/
abbrev Memory := Store 8

/-! ## CPU -/

/-- The programmer-visible CPU state (10_state.md R100–R111): four byte registers, PC and six stored flags. -/
structure Cpu where
  a : Byte
  x : Byte
  y : Byte
  sp : Byte
  pc : Word
  c : Bool
  z : Bool
  i : Bool
  d : Bool
  v : Bool
  n : Bool
deriving DecidableEq, Repr

/-! ## PPU -/

/-- Background latches and shifters (61_ppu.md R906). -/
structure BgPipe where
  ntLatch : Byte
  atLatch : BitVec 2
  ptLo : Byte
  ptHi : Byte
  bgLo : BitVec 16
  bgHi : BitVec 16
  atLo : BitVec 16
  atHi : BitVec 16
deriving DecidableEq, Repr

/-- An entry of secondary OAM: the sprite's index and its four OAM bytes (61_ppu.md R906, R950). -/
structure SpriteEntry where
  index : Nat
  y : Byte
  tile : Byte
  attr : Byte
  x : Byte
deriving DecidableEq, Repr

/-- A sprite unit; the pattern bytes are already flipped (61_ppu.md R906, R951). -/
structure SpriteUnit where
  lo : Byte
  hi : Byte
  attr : Byte
  x : Byte
  valid : Bool
deriving DecidableEq, Repr

/-- The PPU state of 61_ppu.md R900. -/
structure Ppu where
  ciram : Memory
  palette : Store 6
  oam : Memory
  v : BitVec 15
  t : BitVec 15
  x : BitVec 3
  w : Bool
  ctrl : Byte
  mask : Byte
  vblank : Bool
  spr0Hit : Bool
  overflow : Bool
  oamAddr : Byte
  readBuffer : Byte
  scanline : Nat
  dot : Nat
  oddFrame : Bool
  bg : BgPipe
  secondary : List SpriteEntry
  spr0InLine : Bool
  /-- The low plane between its fetch and the high plane's, `none` outside: `lo` of 61_ppu.md R951 (log 21). -/
  sprLoLatch : Option Byte
  units : Vector SpriteUnit 8
  /-- Pixel (row, column) stands at index 256 · row + column (61_ppu.md R955). -/
  framebuffer : Store 24
  frameComplete : Bool
  /-- The frame handed to the host: what `framebuffer` held when the last frame completed, before the remaining dots of the
  step that crossed its end (20_memory.md R251, D29; log 20). -/
  frameOut : Store 24
deriving DecidableEq, Repr

/-! ## APU -/

/-- The envelope of a pulse or noise channel (62_apu_io.md R1005). -/
structure Envelope where
  start : Bool
  div : BitVec 4
  decay : BitVec 4
deriving DecidableEq, Repr

/-- A pulse channel (62_apu_io.md R1000). -/
structure Pulse where
  enabled : Bool
  duty : BitVec 2
  halt : Bool
  constVol : Bool
  vol : BitVec 4
  swEn : Bool
  swPeriod : BitVec 3
  swNeg : Bool
  swShift : BitVec 3
  swReload : Bool
  swDiv : BitVec 3
  period : BitVec 11
  timer : BitVec 11
  seq : BitVec 3
  length : Byte
  env : Envelope
deriving DecidableEq, Repr

/-- The triangle channel (62_apu_io.md R1000). -/
structure Triangle where
  enabled : Bool
  control : Bool
  linReloadVal : BitVec 7
  lin : BitVec 7
  linReload : Bool
  period : BitVec 11
  timer : BitVec 11
  seq : BitVec 5
  length : Byte
deriving DecidableEq, Repr

/-- The noise channel (62_apu_io.md R1000). -/
structure Noise where
  enabled : Bool
  halt : Bool
  constVol : Bool
  vol : BitVec 4
  mode : Bool
  periodIdx : BitVec 4
  timer : BitVec 12
  lfsr : BitVec 15
  length : Byte
  env : Envelope
deriving DecidableEq, Repr

/-- The delta modulation channel (62_apu_io.md R1000). -/
structure Dmc where
  irqEn : Bool
  loop : Bool
  rateIdx : BitVec 4
  timer : BitVec 9
  level : BitVec 7
  addrReg : Byte
  lenReg : Byte
  curAddr : Word
  remaining : BitVec 12
  buffer : Byte
  bufferFull : Bool
  shift : Byte
  bits : Nat
  silence : Bool
  irq : Bool
deriving DecidableEq, Repr

/-- The frame counter (62_apu_io.md R1050–R1052): `mode` is false for the 4-step sequence. -/
structure FrameCounter where
  mode : Bool
  irqInhibit : Bool
  irq : Bool
  cycle : Nat
deriving DecidableEq, Repr

/-- The resampler, the DC block and the sample ring (62_apu_io.md R1092–R1094), oldest sample first. Log 4, log 20. -/
structure AudioOut where
  acc : Rat
  accN : Nat
  sampleClock : Nat
  dcX : Rat
  dcY : Rat
  ring : List (Rat × Rat)
deriving DecidableEq, Repr

/-- The APU state of 62_apu_io.md R1000. -/
structure Apu where
  p1 : Pulse
  p2 : Pulse
  tri : Triangle
  noise : Noise
  dmc : Dmc
  frame : FrameCounter
  parity : Bool
  out : AudioOut
deriving DecidableEq, Repr

/-! ## Controller ports -/

/-- A controller port (62_apu_io.md R1080): bit k of a button byte is A, B, Select, Start, Up, Down, Left, Right. -/
structure Pad where
  buttons : Byte
  latched : Byte
  index : Nat
deriving DecidableEq, Repr

/-- The two ports and the strobe bit (62_apu_io.md R1080). -/
structure Pads where
  pad1 : Pad
  pad2 : Pad
  strobe : Bool
deriving DecidableEq, Repr

/-! ## Cartridge -/

/-- The header's mirroring (63_mappers.md R1100). -/
inductive MirrorHint where
  | horizontal | vertical | fourScreen
deriving DecidableEq, Repr

/-- The nametable layouts a mapper can answer (20_memory.md R231). -/
inductive Mirroring where
  | horizontal | vertical | singleA | singleB | fourScreen
deriving DecidableEq, Repr

/-- MMC1 registers (63_mappers.md R1131); `srN` counts the writes collected, 0 to 4. -/
structure Mmc1 where
  sr : BitVec 5
  srN : Nat
  control : BitVec 5
  chr0 : BitVec 5
  chr1 : BitVec 5
  prg : BitVec 5
deriving DecidableEq, Repr

/-- MMC3 registers (63_mappers.md R1140). -/
structure Mmc3 where
  bankSelect : Byte
  r : Vector Byte 8
  mirror : Bool
  irqLatch : Byte
  irqCounter : Byte
  irqReload : Bool
  irqEnabled : Bool
  irqPending : Bool
  a12Low : Nat
deriving DecidableEq, Repr

/-- The value of an MMC2 or MMC4 CHR latch (63_mappers.md R1160). -/
inductive ChrLatch where
  | fd | fe
deriving DecidableEq, Repr

/-- MMC2 and MMC4 registers (63_mappers.md R1160). -/
structure Mmc24 where
  prgBank : BitVec 4
  chrFdLo : BitVec 5
  chrFeLo : BitVec 5
  chrFdHi : BitVec 5
  chrFeHi : BitVec 5
  mirror : Bool
  latchLo : ChrLatch
  latchHi : ChrLatch
deriving DecidableEq, Repr

/-- Which MMC5 CHR register set was written last (63_mappers.md R1170, R1171). -/
inductive ChrSet where
  | a | b
deriving DecidableEq, Repr

/-- The fetch phase MMC5 sees (63_mappers.md R1186). -/
inductive Phase where
  | bg | spr
deriving DecidableEq, Repr

/-- MMC5 registers (63_mappers.md R1170). Entry k of `prgReg` is the register $5113 + k. -/
structure Mmc5 where
  prgMode : BitVec 2
  chrMode : BitVec 2
  protect1 : BitVec 2
  protect2 : BitVec 2
  exramMode : BitVec 2
  ntMap : Byte
  fillTile : Byte
  fillAttr : BitVec 2
  prgReg : Vector Byte 5
  chrA : Vector Byte 8
  chrB : Vector Byte 4
  chrUpper : BitVec 2
  lastSet : ChrSet
  split : Vector Byte 3
  irqTarget : Byte
  irqEnable : Bool
  irqPending : Bool
  inFrame : Bool
  line : Byte
  mulA : Byte
  mulB : Byte
  exram : Memory
  phase : Phase
  lastNt : Option Word
  ntRun : Nat
  extByte : Byte
deriving DecidableEq, Repr

/-- The twelve mappers (63_mappers.md R1101, D47) with their registers. -/
inductive Mapper where
  | nrom
  | mmc1 (r : Mmc1)
  | uxrom (bank : Byte)
  | cnrom (chrBank : Byte)
  | mmc3 (r : Mmc3)
  | mmc5 (r : Mmc5)
  | axrom (bank : BitVec 3) (screen : Bool)
  | mmc2 (r : Mmc24)
  | mmc4 (r : Mmc24)
  | colorDreams (bank : BitVec 2) (chrBank : BitVec 4)
  | bnrom (bank : Byte)
  | gxrom (bank : BitVec 2) (chrBank : BitVec 2)
deriving DecidableEq, Repr

/-- A loaded cartridge: the configuration of 63_mappers.md R1100, its memories (R1103, R1104; 20_memory.md R231) and its
mapper. `prgSize` and `chrSize` are P and C' of R1100. -/
structure Cart where
  prg : Memory
  prgSize : Nat
  chr : Memory
  chrSize : Nat
  chrIsRam : Bool
  mirrorHint : MirrorHint
  battery : Bool
  prgRam : Memory
  vram : Memory
  mapper : Mapper
deriving DecidableEq, Repr

/-! ## The block -/

/-- The whole state of the block. `params`, `draws` and `stepCycles` are the model's own fields (log 5, log 1, log 11);
the others are the spec's. -/
structure State where
  cpu : Cpu
  /-- 10_state.md R119. -/
  nmiPending : Bool
  /-- 10_state.md R121. -/
  resetRequest : Bool
  /-- 10_state.md R122. -/
  halt : Nat
  /-- 10_state.md R123. -/
  crashed : Option Word
  /-- 10_state.md R124. -/
  cpuCycles : Nat
  /-- 20_memory.md R203: 2 KiB, indexes 0x000 to 0x7FF. -/
  ram : Memory
  ppu : Ppu
  apu : Apu
  pads : Pads
  /-- `none` until the host loads a cartridge (63_mappers.md R1102; log 9). -/
  cart : Option Cart
  params : Params
  /-- How many free values the run has drawn: open bus (log 1) and missing sprite planes (log 15). -/
  draws : Nat
  /-- The CPU cycles of the step in progress, and after it of that step: `cycles` of 20_memory.md R250 (log 11). -/
  stepCycles : Nat
deriving DecidableEq, Repr

/-- Why a step can stop with a fault. No instruction raises one: a crash opcode is a next state (log 10). -/
inductive Fault where
  /-- Raised by `step` when no cartridge is loaded: "no step can run until a load succeeds" (63_mappers.md R1102). Safe:
  the machine stops where the spec has no block state. -/
  | noCartridge
deriving DecidableEq, Repr

/-- Why an instruction can be refused. -/
inductive Refusal where
  /-- Raised by an arm of `exec` whose instruction has no meaning yet; none is left. Safe. -/
  | notModelled (mnemonic : String)
deriving DecidableEq, Repr

/-- What one instruction or one step answers. -/
abbrev Result := Host.Outcome State Fault Refusal

/-! ## Power-on -/

/-- The OPEN power-on values of 00_scope.md R10 (D6, D61). The cartridge's (D69) come with the cartridge. -/
structure PowerOn where
  a : Byte
  x : Byte
  y : Byte
  sp : Byte
  c : Bool
  z : Bool
  d : Bool
  v : Bool
  n : Bool
  ram : Memory
  ciram : Memory
  palette : Store 6
  oam : Memory
deriving DecidableEq, Repr

/-- DESIGN CHOICE (log 6, log 7): the values D6 names for a model that needs one run, and memories that read 0. -/
def PowerOn.default : PowerOn where
  a := 0
  x := 0
  y := 0
  sp := 0xFD
  c := false
  z := false
  d := false
  v := false
  n := false
  ram := []
  ciram := []
  palette := []
  oam := []

/-- An empty sprite unit (70_reset_and_hazards.md R1301: pipeline latches 0). -/
def SpriteUnit.empty : SpriteUnit := ⟨0, 0, 0, 0, false⟩

/-- The PPU at power-on (61_ppu.md R900; 70_reset_and_hazards.md R1301). -/
def Ppu.powerOn (p : PowerOn) : Ppu where
  ciram := p.ciram
  palette := p.palette
  oam := p.oam
  v := 0
  t := 0
  x := 0
  w := false
  ctrl := 0
  mask := 0
  vblank := false
  spr0Hit := false
  overflow := false
  oamAddr := 0
  readBuffer := 0
  scanline := 0
  dot := 0
  oddFrame := false
  bg := ⟨0, 0, 0, 0, 0, 0, 0, 0⟩
  secondary := []
  spr0InLine := false
  sprLoLatch := none
  units := .replicate 8 .empty
  framebuffer := []
  frameComplete := false
  frameOut := []

/-- A pulse channel at power-on (70_reset_and_hazards.md R1301). -/
def Pulse.powerOn : Pulse where
  enabled := false
  duty := 0
  halt := false
  constVol := false
  vol := 0
  swEn := false
  swPeriod := 0
  swNeg := false
  swShift := 0
  swReload := false
  swDiv := 0
  period := 0
  timer := 0
  seq := 0
  length := 0
  env := ⟨false, 0, 0⟩

/-- The APU at power-on: all 0 but `noise.lfsr`, `dmc.bits`, `dmc.silence` and `dmc.cur_addr`
(70_reset_and_hazards.md R1301, D72). -/
def Apu.powerOn : Apu where
  p1 := .powerOn
  p2 := .powerOn
  tri := ⟨false, false, 0, 0, false, 0, 0, 0, 0⟩
  noise := ⟨false, false, false, 0, false, 0, 0, 1, 0, ⟨false, 0, 0⟩⟩
  dmc := {
    irqEn := false, loop := false, rateIdx := 0, timer := 0, level := 0, addrReg := 0, lenReg := 0,
    curAddr := 0xC000, remaining := 0, buffer := 0, bufferFull := false, shift := 0, bits := 8,
    silence := true, irq := false }
  frame := ⟨false, false, false, 0⟩
  parity := false
  out := ⟨0, 0, 0, 0, 0, []⟩

/-- The controller ports at power-on: no button pressed (62_apu_io.md R1082; 70_reset_and_hazards.md R1301). -/
def Pads.powerOn : Pads := ⟨⟨0, 0, 0⟩, ⟨0, 0, 0⟩, false⟩

/-- Power-on with given OPEN values, parameters and cartridge (70_reset_and_hazards.md R1300, R1301). `resetRequest` is 1:
the first step performs RESET. PC is not observable before it (10_state.md R110): DESIGN CHOICE 0 (log 8). -/
def State.powerOn (p : PowerOn) (params : Params) (cart : Option Cart) : State where
  cpu := {
    a := p.a, x := p.x, y := p.y, sp := p.sp, pc := 0,
    c := p.c, z := p.z, i := true, d := p.d, v := p.v, n := p.n }
  nmiPending := false
  resetRequest := true
  halt := 0
  crashed := none
  cpuCycles := 0
  ram := p.ram
  ppu := .powerOn p
  apu := .powerOn
  pads := .powerOn
  cart := cart
  params := params
  draws := 0
  stepCycles := 0

/-- The block right after power-on, with the values the log names for the OPEN parameters and no cartridge (log 5, 6, 7, 8,
9). -/
def State.reset : State := .powerOn .default .default none

end Sys2Proof.Machine
end

