-- ==== Sys2Proof/Machine/Memory.lean ====
section
/-! DEFINITION. Reading and writing sparse storage, its canonical form, and the byte and bit helpers of 00_scope.md R11, R12. -/

namespace Sys2Proof.Machine

variable {w : Nat}

/-- What an index that nothing has written reads as. DESIGN CHOICE (log 7): 0. -/
def Store.unlisted : BitVec w := 0

/-- The value at an index. -/
def Store.read : Store w → Nat → BitVec w
  | [], _ => Store.unlisted
  | (k, v) :: rest, j => if j = k then v else Store.read rest j

/-- Write a value at an index, keeping the canonical form: writing what an unlisted index reads as removes the entry. -/
def Store.write : Store w → Nat → BitVec w → Store w
  | [], j, x => if x = Store.unlisted then [] else [(j, x)]
  | (k, v) :: rest, j, x =>
    if j < k then
      if x = Store.unlisted then (k, v) :: rest else (j, x) :: (k, v) :: rest
    else if j = k then
      if x = Store.unlisted then rest else (k, x) :: rest
    else (k, v) :: Store.write rest j x

/-- The canonical form: indexes strictly rising, no entry equal to what an unlisted index reads as. -/
def Store.wf : Store w → Bool
  | [] => true
  | (k, v) :: rest => v != Store.unlisted && rest.all (fun e => decide (k < e.1)) && Store.wf rest

/-- The canonical form of a byte memory. -/
abbrev Memory.wf (m : Memory) : Bool := Store.wf m

/-- Every index in use is below `n`. -/
def Store.below (n : Nat) (m : Store w) : Bool := m.all (fun e => decide (e.1 < n))

/-- The storage that holds the values of a list at indexes k, k + 1, …. -/
def Store.ofList (k : Nat) : List (BitVec w) → Store w
  | [] => []
  | v :: rest => if v = Store.unlisted then Store.ofList (k + 1) rest else (k, v) :: Store.ofList (k + 1) rest

/-- `lo(w)` of 00_scope.md R12. -/
def lo (a : Word) : Byte := a.setWidth 8

/-- `hi(w)` of 00_scope.md R12. -/
def hi (a : Word) : Byte := (a >>> 8).setWidth 8

/-- `(h << 8) | l` of 00_scope.md R11: the word with high byte `h` and low byte `l` (20_memory.md R210). -/
def word (h l : Byte) : Word := h ++ l

/-- `zext_16` of 00_scope.md R12. -/
def zext16 (b : Byte) : Word := b.setWidth 16

/-- `sext_16` of 00_scope.md R12. -/
def sext16 (b : Byte) : Word := b.signExtend 16

/-- A flag as a number, at bit `k` of a byte. -/
def flagBit (b : Bool) (k : Nat) : Byte := if b then (1 : Byte) <<< k else 0

/-- `reverse(b)` of 61_ppu.md R951: the bit order of a byte reversed. -/
def reverseByte (b : Byte) : Byte := b.reverse

end Sys2Proof.Machine
end

