-- ==== Sys2Proof/Machine/Cartridge.lean ====
section
/-! DEFINITION. The cartridge image: the iNES parse (63_mappers.md R1101), its errors (R1102) and the mappers' power-on values
(70_reset_and_hazards.md R1301). -/

namespace Sys2Proof.Machine

/-- What is wrong with an image (63_mappers.md R1101, R1102). -/
inductive InvalidRom where
  | invalidMagic
  | truncated
  | headerContradictsSize
deriving DecidableEq, Repr

/-- Why a load fails (63_mappers.md R1102). A result of the host's load, never of a step. -/
inductive LoadError where
  | invalidRom (reason : InvalidRom)
  | unsupportedMapper (number : Nat)
deriving DecidableEq, Repr

/-- MMC1 at power-on (63_mappers.md R1131). -/
def Mmc1.powerOn : Mmc1 := ⟨0, 0, 0x0C, 0, 0, 0⟩

/-- MMC3 at power-on (63_mappers.md R1140). -/
def Mmc3.powerOn : Mmc3 := ⟨0, .replicate 8 0, false, 0, 0, false, false, false, 0⟩

/-- MMC2 and MMC4 at power-on (63_mappers.md R1160). -/
def Mmc24.powerOn : Mmc24 := ⟨0, 0, 0, 0, 0, false, .fe, .fe⟩

/-- MMC5 at power-on (63_mappers.md R1188): `prg_mode` 3, `prg_reg[7]` 0xFF, everything else 0. -/
def Mmc5.powerOn : Mmc5 where
  prgMode := 3
  chrMode := 0
  protect1 := 0
  protect2 := 0
  exramMode := 0
  ntMap := 0
  fillTile := 0
  fillAttr := 0
  prgReg := #v[0, 0, 0, 0, 0xFF]
  chrA := .replicate 8 0
  chrB := .replicate 4 0
  chrUpper := 0
  lastSet := .a
  split := .replicate 3 0
  irqTarget := 0
  irqEnable := false
  irqPending := false
  inFrame := false
  line := 0
  mulA := 0
  mulB := 0
  exram := []
  phase := .bg
  lastNt := none
  ntRun := 0
  extByte := 0

/-- The mapper of a number at power-on; `none` for an unsupported number (63_mappers.md R1101;
70_reset_and_hazards.md R1301). -/
def Mapper.powerOn : Nat → Option Mapper
  | 0 => some .nrom
  | 1 => some (.mmc1 .powerOn)
  | 2 => some (.uxrom 0)
  | 3 => some (.cnrom 0)
  | 4 => some (.mmc3 .powerOn)
  | 5 => some (.mmc5 .powerOn)
  | 7 => some (.axrom 0 false)
  | 9 => some (.mmc2 .powerOn)
  | 10 => some (.mmc4 .powerOn)
  | 11 => some (.colorDreams 0 0)
  | 34 => some (.bnrom 0)
  | 66 => some (.gxrom 0 0)
  | _ => none

/-- The OPEN power-on contents of the cartridge's own memories (`PrgRamInit`, `ChrRamInit`, D69, and the four-screen VRAM,
log 19). -/
structure CartInit where
  prgRam : Memory
  chrRam : Memory
  vram : Memory
deriving DecidableEq, Repr

/-- DESIGN CHOICE (log 7): memories that read 0. -/
def CartInit.default : CartInit := ⟨[], [], []⟩

/-- The mapper number of a header (63_mappers.md R1101): the high half of flags 7 counts only when bytes 8 to 15 are 0. -/
def mapperNumber (b : List Byte) : Nat :=
  let low := (b.getD 6 0).toNat / 16
  let high := if (b.drop 8).take 8 |>.all (· == 0) then (b.getD 7 0).toNat / 16 else 0
  16 * high + low

/-- The mirroring hint of flags 6 (63_mappers.md R1101). -/
def mirrorHintOf (flags6 : Byte) : MirrorHint :=
  if flags6.getLsbD 3 then .fourScreen else if flags6.getLsbD 0 then .vertical else .horizontal

/-- `parse(b)` (63_mappers.md R1101), with the cartridge's memories and registers at power-on. -/
def Cart.parse (init : CartInit) (b : List Byte) : Except LoadError Cart :=
  if b.length < 16 ∨ b.take 4 ≠ [0x4E, 0x45, 0x53, 0x1A] then .error (.invalidRom .invalidMagic)
  else
    let flags6 := b.getD 6 0
    let offset := 16 + (if flags6.getLsbD 2 then 512 else 0)
    let prgSize := 16384 * (b.getD 4 0).toNat
    let chrRomSize := 8192 * (b.getD 5 0).toNat
    if prgSize = 0 then .error (.invalidRom .headerContradictsSize)
    else if b.length < offset + prgSize + chrRomSize then .error (.invalidRom .truncated)
    else
      match Mapper.powerOn (mapperNumber b) with
      | none => .error (.unsupportedMapper (mapperNumber b))
      | some mapper => .ok {
          prg := .ofList 0 ((b.drop offset).take prgSize)
          prgSize := prgSize
          chr := if chrRomSize = 0 then init.chrRam else .ofList 0 ((b.drop (offset + prgSize)).take chrRomSize)
          chrSize := if chrRomSize = 0 then 8192 else chrRomSize
          chrIsRam := chrRomSize = 0
          mirrorHint := mirrorHintOf flags6
          battery := flags6.getLsbD 1
          prgRam := init.prgRam
          vram := init.vram
          mapper := mapper }

/-- The bytes of a 32 KiB NROM image that holds `code` at 0x8000 and whose RESET vector is 0x8000. -/
def Cart.ofCode (code : List Byte) : Cart where
  prg := .write (.ofList 0 code) 0x7FFD 0x80
  prgSize := 32768
  chr := []
  chrSize := 8192
  chrIsRam := true
  mirrorHint := .horizontal
  battery := false
  prgRam := []
  vram := []
  mapper := .nrom

end Sys2Proof.Machine
end

