-- ==== Sys2Proof/WellFormed.lean ====
section
/-! DEFINITION. Which mnemonic takes which addressing mode (40_addressing.md R416): the check on an assembled form. Operand
bytes are never checked (30_encoding.md R307), so every term of `Instr` passes. -/

namespace Sys2Proof

/-- A mnemonic with an operand, as assembler text writes it (30_encoding.md R340). -/
structure Form where
  mnemonic : Mnemonic
  operand : Operand
deriving DecidableEq, Repr

/-- The modes of a mnemonic: exactly its rows of spec/opcode_table.json (40_addressing.md R416). -/
def Mnemonic.modes : Mnemonic → List Mode
  | .lda | .adc | .sbc | .cmp | .and | .ora | .eor => [.imm, .zp, .zpx, .abs, .absx, .absy, .indx, .indy]
  | .ldx => [.imm, .zp, .zpy, .abs, .absy]
  | .ldy => [.imm, .zp, .zpx, .abs, .absx]
  | .sta | .dcp | .isc | .rla | .rra | .slo | .sre => [.zp, .zpx, .abs, .absx, .absy, .indx, .indy]
  | .stx => [.zp, .zpy, .abs]
  | .sty => [.zp, .zpx, .abs]
  | .tax | .tay | .tsx | .txa | .txs | .tya | .inx | .iny | .dex | .dey | .rts | .pha | .php | .pla | .plp |
    .clc | .cld | .cli | .clv | .sec | .sed | .sei | .nop | .brk | .rti => [.imp]
  | .cpx | .cpy => [.imm, .zp, .abs]
  | .inc | .dec | .ign => [.zp, .zpx, .abs, .absx]
  | .bit => [.zp, .abs]
  | .asl | .lsr | .rol | .ror => [.acc, .zp, .zpx, .abs, .absx]
  | .jmp => [.abs, .ind]
  | .jsr => [.abs]
  | .bcc | .bcs | .beq | .bmi | .bne | .bpl | .bvc | .bvs => [.rel]
  | .alr | .anc | .arr | .axs | .skb => [.imm]
  | .lax => [.zp, .zpy, .abs, .absy, .indx, .indy]
  | .sax => [.zp, .zpy, .abs, .indx]

/-- A form is well-formed when its mnemonic has an opcode in the operand's mode. -/
def Form.wellFormed (f : Form) : Bool := f.mnemonic.modes.contains f.operand.mode

/-- The form an instruction is written in. -/
def Instr.form (i : Instr) : Form := ⟨i.mnemonic, i.operand⟩

/-- An instruction is well-formed when its form is. -/
def Instr.wellFormed (i : Instr) : Bool := i.form.wellFormed

end Sys2Proof
end

