-- ==== Sys2Proof/Decode.lean ====
section
/-! DEFINITION. The opcode map of 30_encoding.md R305: decoding, total on any bytes and rejecting by name, and the
encoder. One `decodeRow` per line of the map, so that each reads beside it. -/

namespace Sys2Proof

/-- Line 0x of the opcode map (30_encoding.md R305). `lo` is the low half of the opcode; the others crash. -/
def decodeRow0 (lo : Nat) (b1 : Byte) (w : Word) : Option Instr :=
  match lo with
  | 0x0 => some .brk
  | 0x1 => some (.oraIndx b1)
  | 0x3 => some (.sloIndx b1)
  | 0x4 => some (.ignZp04 b1)
  | 0x5 => some (.oraZp b1)
  | 0x6 => some (.aslZp b1)
  | 0x7 => some (.sloZp b1)
  | 0x8 => some .php
  | 0x9 => some (.oraImm b1)
  | 0xA => some .aslAcc
  | 0xB => some (.ancImm0B b1)
  | 0xC => some (.ignAbs w)
  | 0xD => some (.oraAbs w)
  | 0xE => some (.aslAbs w)
  | 0xF => some (.sloAbs w)
  | _ => none

/-- Line 1x of the opcode map (30_encoding.md R305). `lo` is the low half of the opcode; the others crash. -/
def decodeRow1 (lo : Nat) (b1 : Byte) (w : Word) : Option Instr :=
  match lo with
  | 0x0 => some (.bpl b1)
  | 0x1 => some (.oraIndy b1)
  | 0x3 => some (.sloIndy b1)
  | 0x4 => some (.ignZpx14 b1)
  | 0x5 => some (.oraZpx b1)
  | 0x6 => some (.aslZpx b1)
  | 0x7 => some (.sloZpx b1)
  | 0x8 => some .clc
  | 0x9 => some (.oraAbsy w)
  | 0xB => some (.sloAbsy w)
  | 0xC => some (.ignAbsx1C w)
  | 0xD => some (.oraAbsx w)
  | 0xE => some (.aslAbsx w)
  | 0xF => some (.sloAbsx w)
  | _ => none

/-- Line 2x of the opcode map (30_encoding.md R305). `lo` is the low half of the opcode; the others crash. -/
def decodeRow2 (lo : Nat) (b1 : Byte) (w : Word) : Option Instr :=
  match lo with
  | 0x0 => some (.jsrAbs w)
  | 0x1 => some (.andIndx b1)
  | 0x3 => some (.rlaIndx b1)
  | 0x4 => some (.bitZp b1)
  | 0x5 => some (.andZp b1)
  | 0x6 => some (.rolZp b1)
  | 0x7 => some (.rlaZp b1)
  | 0x8 => some .plp
  | 0x9 => some (.andImm b1)
  | 0xA => some .rolAcc
  | 0xB => some (.ancImm2B b1)
  | 0xC => some (.bitAbs w)
  | 0xD => some (.andAbs w)
  | 0xE => some (.rolAbs w)
  | 0xF => some (.rlaAbs w)
  | _ => none

/-- Line 3x of the opcode map (30_encoding.md R305). `lo` is the low half of the opcode; the others crash. -/
def decodeRow3 (lo : Nat) (b1 : Byte) (w : Word) : Option Instr :=
  match lo with
  | 0x0 => some (.bmi b1)
  | 0x1 => some (.andIndy b1)
  | 0x3 => some (.rlaIndy b1)
  | 0x4 => some (.ignZpx34 b1)
  | 0x5 => some (.andZpx b1)
  | 0x6 => some (.rolZpx b1)
  | 0x7 => some (.rlaZpx b1)
  | 0x8 => some .sec
  | 0x9 => some (.andAbsy w)
  | 0xB => some (.rlaAbsy w)
  | 0xC => some (.ignAbsx3C w)
  | 0xD => some (.andAbsx w)
  | 0xE => some (.rolAbsx w)
  | 0xF => some (.rlaAbsx w)
  | _ => none

/-- Line 4x of the opcode map (30_encoding.md R305). `lo` is the low half of the opcode; the others crash. -/
def decodeRow4 (lo : Nat) (b1 : Byte) (w : Word) : Option Instr :=
  match lo with
  | 0x0 => some .rti
  | 0x1 => some (.eorIndx b1)
  | 0x3 => some (.sreIndx b1)
  | 0x4 => some (.ignZp44 b1)
  | 0x5 => some (.eorZp b1)
  | 0x6 => some (.lsrZp b1)
  | 0x7 => some (.sreZp b1)
  | 0x8 => some .pha
  | 0x9 => some (.eorImm b1)
  | 0xA => some .lsrAcc
  | 0xB => some (.alrImm b1)
  | 0xC => some (.jmpAbs w)
  | 0xD => some (.eorAbs w)
  | 0xE => some (.lsrAbs w)
  | 0xF => some (.sreAbs w)
  | _ => none

/-- Line 5x of the opcode map (30_encoding.md R305). `lo` is the low half of the opcode; the others crash. -/
def decodeRow5 (lo : Nat) (b1 : Byte) (w : Word) : Option Instr :=
  match lo with
  | 0x0 => some (.bvc b1)
  | 0x1 => some (.eorIndy b1)
  | 0x3 => some (.sreIndy b1)
  | 0x4 => some (.ignZpx54 b1)
  | 0x5 => some (.eorZpx b1)
  | 0x6 => some (.lsrZpx b1)
  | 0x7 => some (.sreZpx b1)
  | 0x8 => some .cli
  | 0x9 => some (.eorAbsy w)
  | 0xB => some (.sreAbsy w)
  | 0xC => some (.ignAbsx5C w)
  | 0xD => some (.eorAbsx w)
  | 0xE => some (.lsrAbsx w)
  | 0xF => some (.sreAbsx w)
  | _ => none

/-- Line 6x of the opcode map (30_encoding.md R305). `lo` is the low half of the opcode; the others crash. -/
def decodeRow6 (lo : Nat) (b1 : Byte) (w : Word) : Option Instr :=
  match lo with
  | 0x0 => some .rts
  | 0x1 => some (.adcIndx b1)
  | 0x3 => some (.rraIndx b1)
  | 0x4 => some (.ignZp64 b1)
  | 0x5 => some (.adcZp b1)
  | 0x6 => some (.rorZp b1)
  | 0x7 => some (.rraZp b1)
  | 0x8 => some .pla
  | 0x9 => some (.adcImm b1)
  | 0xA => some .rorAcc
  | 0xB => some (.arrImm b1)
  | 0xC => some (.jmpInd w)
  | 0xD => some (.adcAbs w)
  | 0xE => some (.rorAbs w)
  | 0xF => some (.rraAbs w)
  | _ => none

/-- Line 7x of the opcode map (30_encoding.md R305). `lo` is the low half of the opcode; the others crash. -/
def decodeRow7 (lo : Nat) (b1 : Byte) (w : Word) : Option Instr :=
  match lo with
  | 0x0 => some (.bvs b1)
  | 0x1 => some (.adcIndy b1)
  | 0x3 => some (.rraIndy b1)
  | 0x4 => some (.ignZpx74 b1)
  | 0x5 => some (.adcZpx b1)
  | 0x6 => some (.rorZpx b1)
  | 0x7 => some (.rraZpx b1)
  | 0x8 => some .sei
  | 0x9 => some (.adcAbsy w)
  | 0xB => some (.rraAbsy w)
  | 0xC => some (.ignAbsx7C w)
  | 0xD => some (.adcAbsx w)
  | 0xE => some (.rorAbsx w)
  | 0xF => some (.rraAbsx w)
  | _ => none

/-- Line 8x of the opcode map (30_encoding.md R305). `lo` is the low half of the opcode; the others crash. -/
def decodeRow8 (lo : Nat) (b1 : Byte) (w : Word) : Option Instr :=
  match lo with
  | 0x0 => some (.skbImm80 b1)
  | 0x1 => some (.staIndx b1)
  | 0x2 => some (.skbImm82 b1)
  | 0x3 => some (.saxIndx b1)
  | 0x4 => some (.styZp b1)
  | 0x5 => some (.staZp b1)
  | 0x6 => some (.stxZp b1)
  | 0x7 => some (.saxZp b1)
  | 0x8 => some .dey
  | 0x9 => some (.skbImm89 b1)
  | 0xA => some .txa
  | 0xC => some (.styAbs w)
  | 0xD => some (.staAbs w)
  | 0xE => some (.stxAbs w)
  | 0xF => some (.saxAbs w)
  | _ => none

/-- Line 9x of the opcode map (30_encoding.md R305). `lo` is the low half of the opcode; the others crash. -/
def decodeRow9 (lo : Nat) (b1 : Byte) (w : Word) : Option Instr :=
  match lo with
  | 0x0 => some (.bcc b1)
  | 0x1 => some (.staIndy b1)
  | 0x4 => some (.styZpx b1)
  | 0x5 => some (.staZpx b1)
  | 0x6 => some (.stxZpy b1)
  | 0x7 => some (.saxZpy b1)
  | 0x8 => some .tya
  | 0x9 => some (.staAbsy w)
  | 0xA => some .txs
  | 0xD => some (.staAbsx w)
  | _ => none

/-- Line Ax of the opcode map (30_encoding.md R305). `lo` is the low half of the opcode; the others crash. -/
def decodeRowA (lo : Nat) (b1 : Byte) (w : Word) : Option Instr :=
  match lo with
  | 0x0 => some (.ldyImm b1)
  | 0x1 => some (.ldaIndx b1)
  | 0x2 => some (.ldxImm b1)
  | 0x3 => some (.laxIndx b1)
  | 0x4 => some (.ldyZp b1)
  | 0x5 => some (.ldaZp b1)
  | 0x6 => some (.ldxZp b1)
  | 0x7 => some (.laxZp b1)
  | 0x8 => some .tay
  | 0x9 => some (.ldaImm b1)
  | 0xA => some .tax
  | 0xC => some (.ldyAbs w)
  | 0xD => some (.ldaAbs w)
  | 0xE => some (.ldxAbs w)
  | 0xF => some (.laxAbs w)
  | _ => none

/-- Line Bx of the opcode map (30_encoding.md R305). `lo` is the low half of the opcode; the others crash. -/
def decodeRowB (lo : Nat) (b1 : Byte) (w : Word) : Option Instr :=
  match lo with
  | 0x0 => some (.bcs b1)
  | 0x1 => some (.ldaIndy b1)
  | 0x3 => some (.laxIndy b1)
  | 0x4 => some (.ldyZpx b1)
  | 0x5 => some (.ldaZpx b1)
  | 0x6 => some (.ldxZpy b1)
  | 0x7 => some (.laxZpy b1)
  | 0x8 => some .clv
  | 0x9 => some (.ldaAbsy w)
  | 0xA => some .tsx
  | 0xC => some (.ldyAbsx w)
  | 0xD => some (.ldaAbsx w)
  | 0xE => some (.ldxAbsy w)
  | 0xF => some (.laxAbsy w)
  | _ => none

/-- Line Cx of the opcode map (30_encoding.md R305). `lo` is the low half of the opcode; the others crash. -/
def decodeRowC (lo : Nat) (b1 : Byte) (w : Word) : Option Instr :=
  match lo with
  | 0x0 => some (.cpyImm b1)
  | 0x1 => some (.cmpIndx b1)
  | 0x2 => some (.skbImmC2 b1)
  | 0x3 => some (.dcpIndx b1)
  | 0x4 => some (.cpyZp b1)
  | 0x5 => some (.cmpZp b1)
  | 0x6 => some (.decZp b1)
  | 0x7 => some (.dcpZp b1)
  | 0x8 => some .iny
  | 0x9 => some (.cmpImm b1)
  | 0xA => some .dex
  | 0xB => some (.axsImm b1)
  | 0xC => some (.cpyAbs w)
  | 0xD => some (.cmpAbs w)
  | 0xE => some (.decAbs w)
  | 0xF => some (.dcpAbs w)
  | _ => none

/-- Line Dx of the opcode map (30_encoding.md R305). `lo` is the low half of the opcode; the others crash. -/
def decodeRowD (lo : Nat) (b1 : Byte) (w : Word) : Option Instr :=
  match lo with
  | 0x0 => some (.bne b1)
  | 0x1 => some (.cmpIndy b1)
  | 0x3 => some (.dcpIndy b1)
  | 0x4 => some (.ignZpxD4 b1)
  | 0x5 => some (.cmpZpx b1)
  | 0x6 => some (.decZpx b1)
  | 0x7 => some (.dcpZpx b1)
  | 0x8 => some .cld
  | 0x9 => some (.cmpAbsy w)
  | 0xB => some (.dcpAbsy w)
  | 0xC => some (.ignAbsxDC w)
  | 0xD => some (.cmpAbsx w)
  | 0xE => some (.decAbsx w)
  | 0xF => some (.dcpAbsx w)
  | _ => none

/-- Line Ex of the opcode map (30_encoding.md R305). `lo` is the low half of the opcode; the others crash. -/
def decodeRowE (lo : Nat) (b1 : Byte) (w : Word) : Option Instr :=
  match lo with
  | 0x0 => some (.cpxImm b1)
  | 0x1 => some (.sbcIndx b1)
  | 0x2 => some (.skbImmE2 b1)
  | 0x3 => some (.iscIndx b1)
  | 0x4 => some (.cpxZp b1)
  | 0x5 => some (.sbcZp b1)
  | 0x6 => some (.incZp b1)
  | 0x7 => some (.iscZp b1)
  | 0x8 => some .inx
  | 0x9 => some (.sbcImm b1)
  | 0xA => some .nop
  | 0xC => some (.cpxAbs w)
  | 0xD => some (.sbcAbs w)
  | 0xE => some (.incAbs w)
  | 0xF => some (.iscAbs w)
  | _ => none

/-- Line Fx of the opcode map (30_encoding.md R305). `lo` is the low half of the opcode; the others crash. -/
def decodeRowF (lo : Nat) (b1 : Byte) (w : Word) : Option Instr :=
  match lo with
  | 0x0 => some (.beq b1)
  | 0x1 => some (.sbcIndy b1)
  | 0x3 => some (.iscIndy b1)
  | 0x4 => some (.ignZpxF4 b1)
  | 0x5 => some (.sbcZpx b1)
  | 0x6 => some (.incZpx b1)
  | 0x7 => some (.iscZpx b1)
  | 0x8 => some .sed
  | 0x9 => some (.sbcAbsy w)
  | 0xB => some (.iscAbsy w)
  | 0xC => some (.ignAbsxFC w)
  | 0xD => some (.sbcAbsx w)
  | 0xE => some (.incAbsx w)
  | 0xF => some (.iscAbsx w)
  | _ => none

/-- The instruction whose opcode is `op` and whose two following bytes are `b1` and `b2` (30_encoding.md R303, R305); a
shorter instruction ignores the bytes past its length. `none` for the 27 opcodes of R306. -/
def Instr.ofBytes (op b1 b2 : Byte) : Option Instr :=
  let lo := op.toNat % 16
  let w : Word := b2 ++ b1
  match op.toNat / 16 with
  | 0x0 => decodeRow0 lo b1 w
  | 0x1 => decodeRow1 lo b1 w
  | 0x2 => decodeRow2 lo b1 w
  | 0x3 => decodeRow3 lo b1 w
  | 0x4 => decodeRow4 lo b1 w
  | 0x5 => decodeRow5 lo b1 w
  | 0x6 => decodeRow6 lo b1 w
  | 0x7 => decodeRow7 lo b1 w
  | 0x8 => decodeRow8 lo b1 w
  | 0x9 => decodeRow9 lo b1 w
  | 0xA => decodeRowA lo b1 w
  | 0xB => decodeRowB lo b1 w
  | 0xC => decodeRowC lo b1 w
  | 0xD => decodeRowD lo b1 w
  | 0xE => decodeRowE lo b1 w
  | 0xF => decodeRowF lo b1 w
  | _ => none

/-- The length in bytes, opcode included (30_encoding.md R300). -/
def OperandBytes.length : OperandBytes → Nat
  | .none => 1
  | .one _ => 2
  | .two _ => 3

/-- The length of an instruction in bytes (30_encoding.md R300). -/
def Instr.length (i : Instr) : Nat := i.operand.bytes.length

/-- The length of the instruction an opcode starts, `none` for the opcodes outside the table: the first byte alone decides
it (30_encoding.md R300, R306). -/
def opcodeLength (op : Byte) : Option Nat := (Instr.ofBytes op 0 0).map Instr.length

/-- Why bytes decode to no instruction. -/
inductive DecodeError where
  /-- The opcode is one of the 27 of 30_encoding.md R306. -/
  | illegalOpcode (op : Byte)
  /-- The bytes end before the instruction does. -/
  | truncated
deriving DecidableEq, Repr

/-- Decode the instruction at the head of a byte list; answers it with the rest of the list. -/
def decode : List Byte → Except DecodeError (Instr × List Byte)
  | [] => .error .truncated
  | op :: rest =>
    match Instr.ofBytes op (rest.getD 0 0) (rest.getD 1 0) with
    | none => .error (.illegalOpcode op)
    | some i =>
      if rest.length + 1 < i.length then .error .truncated
      else .ok (i, rest.drop (i.length - 1))

/-- The opcode byte of each row of spec/opcode_table.json. -/
def Instr.opcode : Instr → Byte
  | .brk => 0x00
  | .oraIndx _ => 0x01
  | .sloIndx _ => 0x03
  | .ignZp04 _ => 0x04
  | .oraZp _ => 0x05
  | .aslZp _ => 0x06
  | .sloZp _ => 0x07
  | .php => 0x08
  | .oraImm _ => 0x09
  | .aslAcc => 0x0A
  | .ancImm0B _ => 0x0B
  | .ignAbs _ => 0x0C
  | .oraAbs _ => 0x0D
  | .aslAbs _ => 0x0E
  | .sloAbs _ => 0x0F
  | .bpl _ => 0x10
  | .oraIndy _ => 0x11
  | .sloIndy _ => 0x13
  | .ignZpx14 _ => 0x14
  | .oraZpx _ => 0x15
  | .aslZpx _ => 0x16
  | .sloZpx _ => 0x17
  | .clc => 0x18
  | .oraAbsy _ => 0x19
  | .sloAbsy _ => 0x1B
  | .ignAbsx1C _ => 0x1C
  | .oraAbsx _ => 0x1D
  | .aslAbsx _ => 0x1E
  | .sloAbsx _ => 0x1F
  | .jsrAbs _ => 0x20
  | .andIndx _ => 0x21
  | .rlaIndx _ => 0x23
  | .bitZp _ => 0x24
  | .andZp _ => 0x25
  | .rolZp _ => 0x26
  | .rlaZp _ => 0x27
  | .plp => 0x28
  | .andImm _ => 0x29
  | .rolAcc => 0x2A
  | .ancImm2B _ => 0x2B
  | .bitAbs _ => 0x2C
  | .andAbs _ => 0x2D
  | .rolAbs _ => 0x2E
  | .rlaAbs _ => 0x2F
  | .bmi _ => 0x30
  | .andIndy _ => 0x31
  | .rlaIndy _ => 0x33
  | .ignZpx34 _ => 0x34
  | .andZpx _ => 0x35
  | .rolZpx _ => 0x36
  | .rlaZpx _ => 0x37
  | .sec => 0x38
  | .andAbsy _ => 0x39
  | .rlaAbsy _ => 0x3B
  | .ignAbsx3C _ => 0x3C
  | .andAbsx _ => 0x3D
  | .rolAbsx _ => 0x3E
  | .rlaAbsx _ => 0x3F
  | .rti => 0x40
  | .eorIndx _ => 0x41
  | .sreIndx _ => 0x43
  | .ignZp44 _ => 0x44
  | .eorZp _ => 0x45
  | .lsrZp _ => 0x46
  | .sreZp _ => 0x47
  | .pha => 0x48
  | .eorImm _ => 0x49
  | .lsrAcc => 0x4A
  | .alrImm _ => 0x4B
  | .jmpAbs _ => 0x4C
  | .eorAbs _ => 0x4D
  | .lsrAbs _ => 0x4E
  | .sreAbs _ => 0x4F
  | .bvc _ => 0x50
  | .eorIndy _ => 0x51
  | .sreIndy _ => 0x53
  | .ignZpx54 _ => 0x54
  | .eorZpx _ => 0x55
  | .lsrZpx _ => 0x56
  | .sreZpx _ => 0x57
  | .cli => 0x58
  | .eorAbsy _ => 0x59
  | .sreAbsy _ => 0x5B
  | .ignAbsx5C _ => 0x5C
  | .eorAbsx _ => 0x5D
  | .lsrAbsx _ => 0x5E
  | .sreAbsx _ => 0x5F
  | .rts => 0x60
  | .adcIndx _ => 0x61
  | .rraIndx _ => 0x63
  | .ignZp64 _ => 0x64
  | .adcZp _ => 0x65
  | .rorZp _ => 0x66
  | .rraZp _ => 0x67
  | .pla => 0x68
  | .adcImm _ => 0x69
  | .rorAcc => 0x6A
  | .arrImm _ => 0x6B
  | .jmpInd _ => 0x6C
  | .adcAbs _ => 0x6D
  | .rorAbs _ => 0x6E
  | .rraAbs _ => 0x6F
  | .bvs _ => 0x70
  | .adcIndy _ => 0x71
  | .rraIndy _ => 0x73
  | .ignZpx74 _ => 0x74
  | .adcZpx _ => 0x75
  | .rorZpx _ => 0x76
  | .rraZpx _ => 0x77
  | .sei => 0x78
  | .adcAbsy _ => 0x79
  | .rraAbsy _ => 0x7B
  | .ignAbsx7C _ => 0x7C
  | .adcAbsx _ => 0x7D
  | .rorAbsx _ => 0x7E
  | .rraAbsx _ => 0x7F
  | .skbImm80 _ => 0x80
  | .staIndx _ => 0x81
  | .skbImm82 _ => 0x82
  | .saxIndx _ => 0x83
  | .styZp _ => 0x84
  | .staZp _ => 0x85
  | .stxZp _ => 0x86
  | .saxZp _ => 0x87
  | .dey => 0x88
  | .skbImm89 _ => 0x89
  | .txa => 0x8A
  | .styAbs _ => 0x8C
  | .staAbs _ => 0x8D
  | .stxAbs _ => 0x8E
  | .saxAbs _ => 0x8F
  | .bcc _ => 0x90
  | .staIndy _ => 0x91
  | .styZpx _ => 0x94
  | .staZpx _ => 0x95
  | .stxZpy _ => 0x96
  | .saxZpy _ => 0x97
  | .tya => 0x98
  | .staAbsy _ => 0x99
  | .txs => 0x9A
  | .staAbsx _ => 0x9D
  | .ldyImm _ => 0xA0
  | .ldaIndx _ => 0xA1
  | .ldxImm _ => 0xA2
  | .laxIndx _ => 0xA3
  | .ldyZp _ => 0xA4
  | .ldaZp _ => 0xA5
  | .ldxZp _ => 0xA6
  | .laxZp _ => 0xA7
  | .tay => 0xA8
  | .ldaImm _ => 0xA9
  | .tax => 0xAA
  | .ldyAbs _ => 0xAC
  | .ldaAbs _ => 0xAD
  | .ldxAbs _ => 0xAE
  | .laxAbs _ => 0xAF
  | .bcs _ => 0xB0
  | .ldaIndy _ => 0xB1
  | .laxIndy _ => 0xB3
  | .ldyZpx _ => 0xB4
  | .ldaZpx _ => 0xB5
  | .ldxZpy _ => 0xB6
  | .laxZpy _ => 0xB7
  | .clv => 0xB8
  | .ldaAbsy _ => 0xB9
  | .tsx => 0xBA
  | .ldyAbsx _ => 0xBC
  | .ldaAbsx _ => 0xBD
  | .ldxAbsy _ => 0xBE
  | .laxAbsy _ => 0xBF
  | .cpyImm _ => 0xC0
  | .cmpIndx _ => 0xC1
  | .skbImmC2 _ => 0xC2
  | .dcpIndx _ => 0xC3
  | .cpyZp _ => 0xC4
  | .cmpZp _ => 0xC5
  | .decZp _ => 0xC6
  | .dcpZp _ => 0xC7
  | .iny => 0xC8
  | .cmpImm _ => 0xC9
  | .dex => 0xCA
  | .axsImm _ => 0xCB
  | .cpyAbs _ => 0xCC
  | .cmpAbs _ => 0xCD
  | .decAbs _ => 0xCE
  | .dcpAbs _ => 0xCF
  | .bne _ => 0xD0
  | .cmpIndy _ => 0xD1
  | .dcpIndy _ => 0xD3
  | .ignZpxD4 _ => 0xD4
  | .cmpZpx _ => 0xD5
  | .decZpx _ => 0xD6
  | .dcpZpx _ => 0xD7
  | .cld => 0xD8
  | .cmpAbsy _ => 0xD9
  | .dcpAbsy _ => 0xDB
  | .ignAbsxDC _ => 0xDC
  | .cmpAbsx _ => 0xDD
  | .decAbsx _ => 0xDE
  | .dcpAbsx _ => 0xDF
  | .cpxImm _ => 0xE0
  | .sbcIndx _ => 0xE1
  | .skbImmE2 _ => 0xE2
  | .iscIndx _ => 0xE3
  | .cpxZp _ => 0xE4
  | .sbcZp _ => 0xE5
  | .incZp _ => 0xE6
  | .iscZp _ => 0xE7
  | .inx => 0xE8
  | .sbcImm _ => 0xE9
  | .nop => 0xEA
  | .cpxAbs _ => 0xEC
  | .sbcAbs _ => 0xED
  | .incAbs _ => 0xEE
  | .iscAbs _ => 0xEF
  | .beq _ => 0xF0
  | .sbcIndy _ => 0xF1
  | .iscIndy _ => 0xF3
  | .ignZpxF4 _ => 0xF4
  | .sbcZpx _ => 0xF5
  | .incZpx _ => 0xF6
  | .iscZpx _ => 0xF7
  | .sed => 0xF8
  | .sbcAbsy _ => 0xF9
  | .iscAbsy _ => 0xFB
  | .ignAbsxFC _ => 0xFC
  | .sbcAbsx _ => 0xFD
  | .incAbsx _ => 0xFE
  | .iscAbsx _ => 0xFF

/-- The bytes of an instruction in address order: the opcode, then the operand byte, or the low and the high byte of the
operand word (30_encoding.md R301–R303). -/
def encode (i : Instr) : List Byte :=
  match i.operand.bytes with
  | .none => [i.opcode]
  | .one b1 => [i.opcode, b1]
  | .two w => [i.opcode, w.extractLsb' 0 8, w.extractLsb' 8 8]

/-- The `base_cycles` of each row of spec/opcode_table.json (40_addressing.md R418). -/
def Instr.baseCycles : Instr → Nat
  | .oraImm _ | .aslAcc | .ancImm0B _ | .bpl _ | .clc | .andImm _ | .rolAcc | .ancImm2B _ | .bmi _
  | .sec | .eorImm _ | .lsrAcc | .alrImm _ | .bvc _ | .cli | .adcImm _ | .rorAcc | .arrImm _ | .bvs _
  | .sei | .skbImm80 _ | .skbImm82 _ | .dey | .skbImm89 _ | .txa | .bcc _ | .tya | .txs | .ldyImm _
  | .ldxImm _ | .tay | .ldaImm _ | .tax | .bcs _ | .clv | .tsx | .cpyImm _ | .skbImmC2 _ | .iny
  | .cmpImm _ | .dex | .axsImm _ | .bne _ | .cld | .cpxImm _ | .skbImmE2 _ | .inx | .sbcImm _ | .nop
  | .beq _ | .sed => 2
  | .ignZp04 _ | .oraZp _ | .php | .bitZp _ | .andZp _ | .ignZp44 _ | .eorZp _ | .pha | .jmpAbs _
  | .ignZp64 _ | .adcZp _ | .styZp _ | .staZp _ | .stxZp _ | .saxZp _ | .ldyZp _ | .ldaZp _ | .ldxZp _
  | .laxZp _ | .cpyZp _ | .cmpZp _ | .cpxZp _ | .sbcZp _ => 3
  | .ignAbs _ | .oraAbs _ | .ignZpx14 _ | .oraZpx _ | .oraAbsy _ | .ignAbsx1C _ | .oraAbsx _ | .plp
  | .bitAbs _ | .andAbs _ | .ignZpx34 _ | .andZpx _ | .andAbsy _ | .ignAbsx3C _ | .andAbsx _ | .eorAbs _
  | .ignZpx54 _ | .eorZpx _ | .eorAbsy _ | .ignAbsx5C _ | .eorAbsx _ | .pla | .adcAbs _ | .ignZpx74 _
  | .adcZpx _ | .adcAbsy _ | .ignAbsx7C _ | .adcAbsx _ | .styAbs _ | .staAbs _ | .stxAbs _ | .saxAbs _
  | .styZpx _ | .staZpx _ | .stxZpy _ | .saxZpy _ | .ldyAbs _ | .ldaAbs _ | .ldxAbs _ | .laxAbs _
  | .ldyZpx _ | .ldaZpx _ | .ldxZpy _ | .laxZpy _ | .ldaAbsy _ | .ldyAbsx _ | .ldaAbsx _ | .ldxAbsy _
  | .laxAbsy _ | .cpyAbs _ | .cmpAbs _ | .ignZpxD4 _ | .cmpZpx _ | .cmpAbsy _ | .ignAbsxDC _ | .cmpAbsx _
  | .cpxAbs _ | .sbcAbs _ | .ignZpxF4 _ | .sbcZpx _ | .sbcAbsy _ | .ignAbsxFC _ | .sbcAbsx _ => 4
  | .aslZp _ | .sloZp _ | .oraIndy _ | .rolZp _ | .rlaZp _ | .andIndy _ | .lsrZp _ | .sreZp _ | .eorIndy _
  | .rorZp _ | .rraZp _ | .jmpInd _ | .adcIndy _ | .staAbsy _ | .staAbsx _ | .ldaIndy _ | .laxIndy _
  | .decZp _ | .dcpZp _ | .cmpIndy _ | .incZp _ | .iscZp _ | .sbcIndy _ => 5
  | .oraIndx _ | .aslAbs _ | .sloAbs _ | .aslZpx _ | .sloZpx _ | .jsrAbs _ | .andIndx _ | .rolAbs _
  | .rlaAbs _ | .rolZpx _ | .rlaZpx _ | .rti | .eorIndx _ | .lsrAbs _ | .sreAbs _ | .lsrZpx _ | .sreZpx _
  | .rts | .adcIndx _ | .rorAbs _ | .rraAbs _ | .rorZpx _ | .rraZpx _ | .staIndx _ | .saxIndx _
  | .staIndy _ | .ldaIndx _ | .laxIndx _ | .cmpIndx _ | .decAbs _ | .dcpAbs _ | .decZpx _ | .dcpZpx _
  | .sbcIndx _ | .incAbs _ | .iscAbs _ | .incZpx _ | .iscZpx _ => 6
  | .brk | .sloAbsy _ | .aslAbsx _ | .sloAbsx _ | .rlaAbsy _ | .rolAbsx _ | .rlaAbsx _ | .sreAbsy _
  | .lsrAbsx _ | .sreAbsx _ | .rraAbsy _ | .rorAbsx _ | .rraAbsx _ | .dcpAbsy _ | .decAbsx _ | .dcpAbsx _
  | .iscAbsy _ | .incAbsx _ | .iscAbsx _ => 7
  | .sloIndx _ | .sloIndy _ | .rlaIndx _ | .rlaIndy _ | .sreIndx _ | .sreIndy _ | .rraIndx _ | .rraIndy _
  | .dcpIndx _ | .dcpIndy _ | .iscIndx _ | .iscIndy _ => 8

/-- Byte `k` of an instruction whose bits are `w`, every bit from `nbits` on read as 0; bit 0 is the least significant bit
of the first byte, as spec/opcode_table.json numbers them. -/
def tableByte (nbits w k : Nat) : Byte := BitVec.ofNat 8 (w % 2 ^ nbits / 2 ^ (8 * k))

/-- What the decoder reads from an instruction whose bits are `w`, numbered as spec/opcode_table.json numbers them. -/
def decodeTableWord (nbits w : Nat) : Option Instr :=
  match decode [tableByte nbits w 0, tableByte nbits w 1, tableByte nbits w 2] with
  | .ok (i, _) => some i
  | .error _ => none

end Sys2Proof
end

