-- ==== Sys2Proof/Machine/Apu.lean ====
section
/-! DEFINITION. The APU units (62_apu_io.md): register writes, envelopes, sweeps, counters, timers, the frame counter, the
DMC output unit, the mixer and the output stage. All are functions on the APU state alone; the DMC memory reader, which reads
the CPU bus, is in Machine/Clock.lean. -/

namespace Sys2Proof.Machine

/-! ## Tables -/

/-- `LengthTable` (62_apu_io.md R1007). -/
def lengthTable : List Nat :=
  [10, 254, 20, 2, 40, 4, 80, 6, 160, 8, 60, 10, 14, 12, 26, 14,
   12, 16, 24, 18, 48, 20, 96, 22, 192, 24, 72, 26, 16, 28, 32, 30]

/-- The length a load with index `k` gives (62_apu_io.md R1007). -/
def lengthOf (k : BitVec 5) : Byte := BitVec.ofNat 8 (lengthTable.getD k.toNat 0)

/-- `DutyTable` (62_apu_io.md R1003), one row per duty. -/
def dutyTable : List (List Nat) :=
  [[0, 1, 0, 0, 0, 0, 0, 0],
   [0, 1, 1, 0, 0, 0, 0, 0],
   [0, 1, 1, 1, 1, 0, 0, 0],
   [1, 0, 0, 1, 1, 1, 1, 1]]

/-- `NoisePeriod` (62_apu_io.md R1021). -/
def noisePeriod : List Nat :=
  [4, 8, 16, 32, 64, 96, 128, 160, 202, 254, 380, 508, 762, 1016, 2034, 4068]

/-- `DmcRate` (62_apu_io.md R1061). -/
def dmcRate : List Nat :=
  [428, 380, 340, 320, 286, 254, 226, 214, 190, 160, 142, 128, 106, 84, 72, 54]

/-- `TriTable[seq]` (62_apu_io.md R1013): 15 down to 0, then 0 up to 15. -/
def triTable (seq : BitVec 5) : Nat := if seq.toNat < 16 then 15 - seq.toNat else seq.toNat - 16

/-! ## Register writes -/

/-- Pulse registers 0 to 3 (62_apu_io.md R1002). -/
def Pulse.write (p : Pulse) (k : Nat) (d : Byte) : Pulse :=
  match k with
  | 0 => { p with
      duty := d.extractLsb' 6 2, halt := d.getLsbD 5, constVol := d.getLsbD 4, vol := d.setWidth 4 }
  | 1 => { p with
      swEn := d.getLsbD 7, swPeriod := d.extractLsb' 4 3, swNeg := d.getLsbD 3, swShift := d.setWidth 3,
      swReload := true }
  | 2 => { p with period := (p.period &&& 0x700) ||| d.setWidth 11 }
  | _ => { p with
      period := (p.period &&& 0x0FF) ||| ((d.setWidth 11 &&& 7) <<< 8)
      length := if p.enabled then lengthOf (d.extractLsb' 3 5) else p.length
      seq := 0
      env := { p.env with start := true } }

/-- Triangle registers 0 to 3 (62_apu_io.md R1010). -/
def Triangle.write (p : Triangle) (k : Nat) (d : Byte) : Triangle :=
  match k with
  | 0 => { p with control := d.getLsbD 7, linReloadVal := d.setWidth 7 }
  | 1 => p
  | 2 => { p with period := (p.period &&& 0x700) ||| d.setWidth 11 }
  | _ => { p with
      period := (p.period &&& 0x0FF) ||| ((d.setWidth 11 &&& 7) <<< 8)
      length := if p.enabled then lengthOf (d.extractLsb' 3 5) else p.length
      linReload := true }

/-- Noise registers 0 to 3 (62_apu_io.md R1020). -/
def Noise.write (p : Noise) (k : Nat) (d : Byte) : Noise :=
  match k with
  | 0 => { p with halt := d.getLsbD 5, constVol := d.getLsbD 4, vol := d.setWidth 4 }
  | 1 => p
  | 2 => { p with mode := d.getLsbD 7, periodIdx := d.setWidth 4 }
  | _ => { p with
      length := if p.enabled then lengthOf (d.extractLsb' 3 5) else p.length
      env := { p.env with start := true } }

/-- DMC registers 0 to 3 (62_apu_io.md R1060). -/
def Dmc.write (p : Dmc) (k : Nat) (d : Byte) : Dmc :=
  match k with
  | 0 => { p with
      irqEn := d.getLsbD 7, loop := d.getLsbD 6, rateIdx := d.setWidth 4,
      irq := p.irq && d.getLsbD 7 }
  | 1 => { p with level := d.setWidth 7 }
  | 2 => { p with addrReg := d }
  | _ => { p with lenReg := d }

/-- Point the DMC reader at the start of its sample (62_apu_io.md R1062, R1071). -/
def Dmc.restart (p : Dmc) : Dmc :=
  { p with
    curAddr := 0xC000 + (p.addrReg.setWidth 16 <<< 6)
    remaining := (p.lenReg.setWidth 12 <<< 4) + 1 }

/-- A write of 0x4000 + k, k ≤ 0x13 (62_apu_io.md R1001). -/
def Apu.writeChannel (u : Apu) (k : Nat) (d : Byte) : Apu :=
  match k / 4 with
  | 0 => { u with p1 := u.p1.write (k % 4) d }
  | 1 => { u with p2 := u.p2.write (k % 4) d }
  | 2 => { u with tri := u.tri.write (k % 4) d }
  | 3 => { u with noise := u.noise.write (k % 4) d }
  | _ => { u with dmc := u.dmc.write (k % 4) d }

/-- A write of 0x4015: the channel enables (62_apu_io.md R1071). -/
def Apu.writeEnables (u : Apu) (d : Byte) : Apu :=
  let dmc :=
    if d.getLsbD 4 = false then { u.dmc with remaining := 0 }
    else if u.dmc.remaining = 0 then u.dmc.restart
    else u.dmc
  { u with
    p1 := { u.p1 with enabled := d.getLsbD 0, length := if d.getLsbD 0 then u.p1.length else 0 }
    p2 := { u.p2 with enabled := d.getLsbD 1, length := if d.getLsbD 1 then u.p2.length else 0 }
    tri := { u.tri with enabled := d.getLsbD 2, length := if d.getLsbD 2 then u.tri.length else 0 }
    noise := { u.noise with enabled := d.getLsbD 3, length := if d.getLsbD 3 then u.noise.length else 0 }
    dmc := { dmc with irq := false } }

/-- What a read of 0x4015 drives: every bit but bit 5 (62_apu_io.md R1070). -/
def Apu.statusByte (u : Apu) : Byte :=
  flagBit u.dmc.irq 7 ||| flagBit u.frame.irq 6 ||| flagBit (u.dmc.remaining != 0) 4 |||
    flagBit (u.noise.length != 0) 3 ||| flagBit (u.tri.length != 0) 2 ||| flagBit (u.p2.length != 0) 1 |||
    flagBit (u.p1.length != 0) 0

/-! ## Envelope, sweep, length and linear counters -/

/-- `EnvClock()` (62_apu_io.md R1005); `vol` and `loop` are the channel's volume and halt flag. -/
def Envelope.clock (e : Envelope) (vol : BitVec 4) (loop : Bool) : Envelope :=
  if e.start then { start := false, decay := 15, div := vol }
  else if e.div = 0 then
    { e with div := vol, decay := if e.decay ≠ 0 then e.decay - 1 else if loop then 15 else e.decay }
  else { e with div := e.div - 1 }

/-- `SweepTarget()` (62_apu_io.md R1006), an integer; `second` is true for pulse 2. -/
def Pulse.sweepTarget (p : Pulse) (second : Bool) : Int :=
  let c : Int := (p.period >>> p.swShift.toNat).toNat
  if p.swNeg then p.period.toNat - c - (if second then 0 else 1) else p.period.toNat + c

/-- `SweepMute` (62_apu_io.md R1006). -/
def Pulse.sweepMute (p : Pulse) (second : Bool) : Bool := p.period < 8 || decide (0x7FF < p.sweepTarget second)

/-- `SweepClock()` (62_apu_io.md R1006). -/
def Pulse.sweepClock (p : Pulse) (second : Bool) : Pulse :=
  let change := p.swDiv = 0 ∧ p.swEn = true ∧ p.swShift ≠ 0 ∧ p.sweepMute second = false
  let q := if change then { p with period := BitVec.ofInt 11 (p.sweepTarget second) } else p
  if p.swDiv = 0 ∨ p.swReload = true then { q with swDiv := p.swPeriod, swReload := false }
  else { q with swDiv := p.swDiv - 1 }

/-- The length counter's half-frame clock (62_apu_io.md R1007). -/
def lengthClock (length : Byte) (halt : Bool) : Byte := if length ≠ 0 ∧ halt = false then length - 1 else length

/-- The linear counter's quarter-frame clock (62_apu_io.md R1011). -/
def Triangle.linClock (p : Triangle) : Triangle :=
  { p with
    lin := if p.linReload then p.linReloadVal else if p.lin ≠ 0 then p.lin - 1 else p.lin
    linReload := if p.control then p.linReload else false }

/-! ## Frame counter -/

/-- A quarter-frame clock: envelopes and linear counter (62_apu_io.md R1051). -/
def Apu.quarter (u : Apu) : Apu :=
  { u with
    p1 := { u.p1 with env := u.p1.env.clock u.p1.vol u.p1.halt }
    p2 := { u.p2 with env := u.p2.env.clock u.p2.vol u.p2.halt }
    noise := { u.noise with env := u.noise.env.clock u.noise.vol u.noise.halt }
    tri := u.tri.linClock }

/-- A half-frame clock: length counters and sweep units (62_apu_io.md R1051). -/
def Apu.half (u : Apu) : Apu :=
  { u with
    p1 := { u.p1 with length := lengthClock u.p1.length u.p1.halt }.sweepClock false
    p2 := { u.p2 with length := lengthClock u.p2.length u.p2.halt }.sweepClock true
    tri := { u.tri with length := lengthClock u.tri.length u.tri.control }
    noise := { u.noise with length := lengthClock u.noise.length u.noise.halt } }

/-- A write of 0x4017 (62_apu_io.md R1052). -/
def Apu.writeFrame (u : Apu) (d : Byte) : Apu :=
  let u := { u with frame := {
    mode := d.getLsbD 7, irqInhibit := d.getLsbD 6, irq := u.frame.irq && !d.getLsbD 6, cycle := 0 } }
  if d.getLsbD 7 then u.quarter.half else u

/-- The frame sequencer's cycle (62_apu_io.md R1051). -/
def Apu.frameTick (u : Apu) : Apu :=
  let n := u.frame.cycle + 1
  let u := { u with frame := { u.frame with cycle := n } }
  if n = 7457 ∨ n = 22371 then u.quarter
  else if n = 14913 then u.quarter.half
  else if u.frame.mode then
    if n = 37281 then u.quarter.half
    else if n = 37282 then { u with frame := { u.frame with cycle := 0 } }
    else u
  else
    if n = 29829 then
      let u := u.quarter.half
      { u with frame := { u.frame with irq := u.frame.irq || !u.frame.irqInhibit } }
    else if n = 29830 then { u with frame := { u.frame with cycle := 0 } }
    else u

/-! ## Timers -/

/-- The pulse timer (62_apu_io.md R1004). -/
def Pulse.timerClock (p : Pulse) : Pulse :=
  if p.timer = 0 then { p with timer := p.period, seq := p.seq + 1 } else { p with timer := p.timer - 1 }

/-- The triangle timer (62_apu_io.md R1012). -/
def Triangle.timerClock (p : Triangle) : Triangle :=
  if p.timer = 0 then
    { p with timer := p.period, seq := if p.lin ≠ 0 ∧ p.length ≠ 0 then p.seq + 1 else p.seq }
  else { p with timer := p.timer - 1 }

/-- One LFSR clock (62_apu_io.md R1021): mode 0 taps bit 1, mode 1 taps bit 6. -/
def lfsrClock (lfsr : BitVec 15) (mode : Bool) : BitVec 15 :=
  let fb := lfsr.getLsbD 0 ^^ (if mode then lfsr.getLsbD 6 else lfsr.getLsbD 1)
  (lfsr >>> 1) ||| (if fb then 0x4000 else 0)

/-- The noise timer (62_apu_io.md R1021). -/
def Noise.timerClock (p : Noise) : Noise :=
  if p.timer = 0 then
    { p with
      timer := BitVec.ofNat 12 (noisePeriod.getD p.periodIdx.toNat 0 / 2 - 1)
      lfsr := lfsrClock p.lfsr p.mode }
  else { p with timer := p.timer - 1 }

/-- `DmcTimerClock()` (62_apu_io.md R1061). -/
def Dmc.timerClock (p : Dmc) : Dmc :=
  if p.timer ≠ 0 then { p with timer := p.timer - 1 }
  else
    let level :=
      if p.silence then p.level
      else if p.shift.getLsbD 0 then (if p.level ≤ 125 then p.level + 2 else p.level)
      else if 2 ≤ p.level then p.level - 2
      else p.level
    let q := { p with
      timer := BitVec.ofNat 9 (dmcRate.getD p.rateIdx.toNat 0 - 1)
      level := level
      shift := p.shift >>> 1
      bits := p.bits - 1 }
    if p.bits - 1 = 0 then
      if p.bufferFull then { q with bits := 8, shift := p.buffer, bufferFull := false, silence := false }
      else { q with bits := 8, silence := true }
    else q

/-! ## Channel outputs and mixer -/

/-- `EnvVolume` (62_apu_io.md R1005). -/
def envVolume (constVol : Bool) (vol : BitVec 4) (e : Envelope) : Nat := if constVol then vol.toNat else e.decay.toNat

/-- Pulse output, 0..15 (62_apu_io.md R1008). -/
def Pulse.output (p : Pulse) (second : Bool) : Nat :=
  if p.length = 0 ∨ (dutyTable.getD p.duty.toNat []).getD p.seq.toNat 0 = 0 ∨ p.sweepMute second = true then 0
  else envVolume p.constVol p.vol p.env

/-- Triangle output, 0..15 (62_apu_io.md R1013). -/
def Triangle.output (p : Triangle) : Nat := triTable p.seq

/-- Noise output, 0..15 (62_apu_io.md R1022). -/
def Noise.output (p : Noise) : Nat :=
  if p.length = 0 ∨ p.lfsr.getLsbD 0 = true then 0 else envVolume p.constVol p.vol p.env

/-- `pulse_out` (62_apu_io.md R1091) for an exact pulse sum, each operation on it rounded by `rnd` (D44). -/
def pulseMix (rnd : Rat → Rat) (sum : Nat) : Rat :=
  if sum = 0 then 0 else rnd (9552 / 100 / rnd (rnd (8128 / (sum : Rat)) + 100))

/-- `tnd_out` (62_apu_io.md R1091) for an exact weighted sum, each operation on it rounded by `rnd` (D44). -/
def tndMix (rnd : Rat → Rat) (sum : Nat) : Rat :=
  if sum = 0 then 0 else rnd (16367 / 100 / rnd (rnd (24329 / (sum : Rat)) + 100))

/-- `mix` (62_apu_io.md R1091). `rnd` is `MixNumerics`; the real-valued result is the one with `rnd` the identity. DESIGN
CHOICE (log 4): `pulse_sum` and `tnd` are exact naturals, which `rnd` does not round. -/
def Apu.mix (rnd : Rat → Rat) (u : Apu) : Rat :=
  rnd (pulseMix rnd (u.p1.output false + u.p2.output true) +
    tndMix rnd (3 * u.tri.output + 2 * u.noise.output + u.dmc.level.toNat))

/-! ## Output -/

/-- The sample ring's capacity (62_apu_io.md R1094). -/
def ringCapacity : Nat := 2048

/-- Deliver one sample pair; a full ring drops it (62_apu_io.md R1094, D67). -/
def AudioOut.deliver (o : AudioOut) (y : Rat) : AudioOut :=
  if o.ring.length < ringCapacity then { o with ring := o.ring ++ [(y, y)] } else o

/-- The DC block on one resampled value, then delivery (62_apu_io.md R1093, R1094). -/
def AudioOut.emit (rnd : Rat → Rat) (o : AudioOut) (x : Rat) : AudioOut :=
  let y := rnd (rnd (x - o.dcX) + rnd (995 / 1000 * o.dcY))
  { o with dcX := x, dcY := y }.deliver y

/-- `OutputCycle()` (62_apu_io.md R1092). -/
def AudioOut.cycle (rnd : Rat → Rat) (sampleRate cpuClockHz : Nat) (o : AudioOut) (mix : Rat) : AudioOut :=
  let acc := rnd (o.acc + mix)
  let n := o.accN + 1
  let clock := o.sampleClock + sampleRate
  if cpuClockHz ≤ clock then
    { o with acc := 0, accN := 0, sampleClock := clock - cpuClockHz }.emit rnd (rnd (acc / (n : Rat)))
  else { o with acc := acc, accN := n, sampleClock := clock }

end Sys2Proof.Machine
end

