-- ==== Sys2Proof/Machine/Mapper.lean ====
section
/-! DEFINITION. The cartridge (63_mappers.md): the capability flags, the CPU-side and PPU-side maps of the twelve mappers,
their register writes, and the fetch hooks. The functions here take and answer a cartridge only; the bus side, with open bus,
is Machine/Bus.lean and Machine/PpuBus.lean. -/

namespace Sys2Proof.Machine

/-! ## Capabilities -/

/-- The six capability flags (63_mappers.md R1120). -/
structure Caps where
  chrLatch : Bool
  scanlineIrq : Bool
  ppuA13 : Bool
  ntOverride : Bool
  addrHook : Bool
  scanlineHook : Bool
deriving DecidableEq, Repr

/-- What each mapper declares (63_mappers.md R1124). -/
def Mapper.caps : Mapper → Caps
  | .nrom | .mmc1 _ | .uxrom _ | .cnrom _ | .axrom _ _ | .colorDreams _ _ | .bnrom _ | .gxrom _ _ =>
    ⟨false, false, false, false, false, false⟩
  | .mmc3 _ => ⟨false, true, false, false, false, false⟩
  | .mmc2 _ | .mmc4 _ => ⟨true, false, false, false, false, false⟩
  | .mmc5 _ => ⟨false, false, true, true, true, true⟩

/-- The iNES mapper number (63_mappers.md R1101). -/
def Mapper.number : Mapper → Nat
  | .nrom => 0
  | .mmc1 _ => 1
  | .uxrom _ => 2
  | .cnrom _ => 3
  | .mmc3 _ => 4
  | .mmc5 _ => 5
  | .axrom _ _ => 7
  | .mmc2 _ => 9
  | .mmc4 _ => 10
  | .colorDreams _ _ => 11
  | .bnrom _ => 34
  | .gxrom _ _ => 66

/-! ## PRG map -/

/-- What a CPU address from 0x6000 on reaches: a byte of PRG-ROM or of PRG-RAM, by its index. -/
inductive PrgTarget where
  | rom (index : Nat)
  | ram (index : Nat)
deriving DecidableEq, Repr

/-- The index of `PrgByte(bank, size, off)` (63_mappers.md R1100). -/
def Cart.prgIndex (c : Cart) (bank size off : Nat) : Nat := (bank * size + off) % c.prgSize

/-- MMC1 PRG map (63_mappers.md R1134) for an offset `o` from 0x8000. -/
def Mmc1.romIndex (r : Mmc1) (c : Cart) (o : Nat) : Nat :=
  let b := (r.prg.extractLsb' 0 4).toNat
  let last := c.prgSize / 16384 - 1
  match (r.control.extractLsb' 2 2).toNat with
  | 2 => if o < 0x4000 then c.prgIndex 0 16384 o else c.prgIndex b 16384 (o % 0x4000)
  | 3 => if o < 0x4000 then c.prgIndex b 16384 o else c.prgIndex last 16384 (o % 0x4000)
  | _ => c.prgIndex (b / 2) 32768 o

/-- MMC3 PRG map (63_mappers.md R1144) for an offset `o` from 0x8000. -/
def Mmc3.romIndex (r : Mmc3) (c : Cart) (o : Nat) : Nat :=
  let last := c.prgSize / 8192 - 1
  let r6 := (r.r.toList.getD 6 0).toNat
  let r7 := (r.r.toList.getD 7 0).toNat
  let swap := r.bankSelect.getLsbD 6
  let bank :=
    match o / 0x2000 with
    | 0 => if swap then last - 1 else r6
    | 1 => r7
    | 2 => if swap then r6 else last - 1
    | _ => last
  c.prgIndex bank 8192 (o % 0x2000)

/-- The index of `PrgByte(bank, size, off)` for a bank counted back from the end of PRG-ROM, which a short PRG-ROM makes
negative; the `mod P` of 63_mappers.md R1100 wraps it. -/
def Cart.prgIndexInt (c : Cart) (bank : Int) (size off : Nat) : Nat := ((bank * size + off) % c.prgSize).toNat

/-- MMC2 PRG map (63_mappers.md R1162) for an offset `o` from 0x8000. -/
def Mmc24.romIndexMmc2 (r : Mmc24) (c : Cart) (o : Nat) : Nat :=
  if o < 0x2000 then c.prgIndex r.prgBank.toNat 8192 o
  else c.prgIndexInt (((c.prgSize / 8192 : Nat) : Int) - 3 + ((o / 0x2000 - 1 : Nat) : Int)) 8192 (o % 0x2000)

/-- MMC4 PRG map (63_mappers.md R1162) for an offset `o` from 0x8000. -/
def Mmc24.romIndexMmc4 (r : Mmc24) (c : Cart) (o : Nat) : Nat :=
  if o < 0x4000 then c.prgIndex r.prgBank.toNat 16384 o
  else c.prgIndex (c.prgSize / 16384 - 1) 16384 (o % 0x4000)

/-- An MMC5 PRG register with number `k` ($5113 + k) mapping a slot of `units` 8 KiB units, at offset `o` from the slot's
start (63_mappers.md R1174). -/
def Mmc5.slot (r : Mmc5) (c : Cart) (k units o : Nat) : PrgTarget :=
  let v := r.prgReg.toList.getD k 0
  let n := (v.extractLsb' 0 7).toNat / units * units
  let isRom := k = 4 ∨ (k ≠ 0 ∧ v.getLsbD 7 = true)
  if isRom then .rom (c.prgIndex n 8192 o) else .ram ((n % 8 * 8192 + o) % 65536)

/-- MMC5 PRG slots (63_mappers.md R1173) for an address from 0x6000 on. -/
def Mmc5.prgTarget (r : Mmc5) (c : Cart) (a : Word) : PrgTarget :=
  if a < 0x8000 then r.slot c 0 1 (a - 0x6000).toNat
  else
    match r.prgMode.toNat with
    | 0 => r.slot c 4 4 (a - 0x8000).toNat
    | 1 => if a < 0xC000 then r.slot c 2 2 (a - 0x8000).toNat else r.slot c 4 2 (a - 0xC000).toNat
    | 2 =>
      if a < 0xC000 then r.slot c 2 2 (a - 0x8000).toNat
      else if a < 0xE000 then r.slot c 3 1 (a - 0xC000).toNat
      else r.slot c 4 1 (a - 0xE000).toNat
    | _ =>
      if a < 0xA000 then r.slot c 1 1 (a - 0x8000).toNat
      else if a < 0xC000 then r.slot c 2 1 (a - 0xA000).toNat
      else if a < 0xE000 then r.slot c 3 1 (a - 0xC000).toNat
      else r.slot c 4 1 (a - 0xE000).toNat

/-- The PRG-ROM index for an offset `o` from 0x8000, for every mapper but MMC5 (63_mappers.md R1130, R1134, R1144,
R1150–R1155, R1162). -/
def Cart.romIndex (c : Cart) (o : Nat) : Nat :=
  match c.mapper with
  | .nrom | .cnrom _ | .mmc5 _ => c.prgIndex 0 32768 o
  | .mmc1 r => r.romIndex c o
  | .uxrom bank =>
    if o < 0x4000 then c.prgIndex bank.toNat 16384 o
    else c.prgIndex (c.prgSize / 16384 - 1) 16384 (o % 0x4000)
  | .mmc3 r => r.romIndex c o
  | .axrom bank _ => c.prgIndex bank.toNat 32768 o
  | .mmc2 r => r.romIndexMmc2 c o
  | .mmc4 r => r.romIndexMmc4 c o
  | .colorDreams bank _ => c.prgIndex bank.toNat 32768 o
  | .bnrom bank => c.prgIndex bank.toNat 32768 o
  | .gxrom bank _ => c.prgIndex bank.toNat 32768 o

/-- What a CPU address from 0x6000 on reaches (63_mappers.md R1103, R1121). -/
def Cart.prgTarget (c : Cart) (a : Word) : PrgTarget :=
  match c.mapper with
  | .mmc5 r => r.prgTarget c a
  | _ => if a.toNat < 0x8000 then .ram (a - 0x6000).toNat else .rom (c.romIndex (a - 0x8000).toNat)

/-- The PRG byte a CPU address from 0x6000 on reads. -/
def Cart.prgRead (c : Cart) (a : Word) : Byte :=
  match c.prgTarget a with
  | .rom k => c.prg.read k
  | .ram k => c.prgRam.read k

/-! ## CPU reads -/

/-- A byte of which only the bits of `mask` are driven; the others are open bus (D18). -/
structure Driven where
  val : Byte
  mask : Byte
deriving DecidableEq, Repr

/-- A byte of which every bit is driven. -/
def Driven.all (v : Byte) : Driven := ⟨v, 0xFF⟩

/-- Nothing drives the byte. -/
def Driven.nothing : Driven := ⟨0, 0⟩

/-- MMC5 CPU reads below 0x6000 (63_mappers.md R1177, R1183, R1184, R1187). -/
def Mmc5.readRegister (r : Mmc5) (a : Word) : Driven × Mmc5 :=
  if a = 0x5204 then
    (⟨flagBit r.irqPending 7 ||| flagBit r.inFrame 6, 0xC0⟩, { r with irqPending := false })
  else if a = 0x5205 then (.all (BitVec.ofNat 8 (r.mulA.toNat * r.mulB.toNat)), r)
  else if a = 0x5206 then (.all (BitVec.ofNat 8 (r.mulA.toNat * r.mulB.toNat / 256)), r)
  else if 0x5C00 ≤ a then
    if 2 ≤ r.exramMode then (.all (r.exram.read (a - 0x5C00).toNat), r) else (.nothing, r)
  else (.nothing, r)

/-- `cpu_read(a)`, a ≥ 0x4020 (63_mappers.md R1121). -/
def Cart.cpuRead (c : Cart) (a : Word) : Driven × Cart :=
  if 0x6000 ≤ a then (.all (c.prgRead a), c)
  else
    match c.mapper with
    | .mmc5 r =>
      let d := r.readRegister a
      (d.1, { c with mapper := .mmc5 d.2 })
    | _ => (.nothing, c)

/-! ## CPU writes -/

/-- MMC1 register write (63_mappers.md R1132). -/
def Mmc1.write (r : Mmc1) (a : Word) (d : Byte) (consecutive : Bool) : Mmc1 :=
  if consecutive then r
  else if d.getLsbD 7 then { r with sr := 0, srN := 0, control := r.control ||| 0x0C }
  else
    let sr := r.sr ||| ((d.setWidth 5 &&& 1) <<< r.srN)
    if r.srN + 1 = 5 then
      let r := { r with sr := 0, srN := 0 }
      match (a.extractLsb' 13 2).toNat with
      | 0 => { r with control := sr }
      | 1 => { r with chr0 := sr }
      | 2 => { r with chr1 := sr }
      | _ => { r with prg := sr }
    else { r with sr := sr, srN := r.srN + 1 }

/-- MMC3 register write (63_mappers.md R1141). -/
def Mmc3.write (r : Mmc3) (a : Word) (d : Byte) : Mmc3 :=
  let k := a &&& 0xE001
  if k = 0x8000 then { r with bankSelect := d }
  else if k = 0x8001 then { r with r := r.r.setIfInBounds (r.bankSelect.extractLsb' 0 3).toNat d }
  else if k = 0xA000 then { r with mirror := d.getLsbD 0 }
  else if k = 0xC000 then { r with irqLatch := d }
  else if k = 0xC001 then { r with irqReload := true }
  else if k = 0xE000 then { r with irqEnabled := false, irqPending := false }
  else if k = 0xE001 then { r with irqEnabled := true }
  else r

/-- MMC2 and MMC4 register write (63_mappers.md R1161). -/
def Mmc24.write (r : Mmc24) (a : Word) (d : Byte) : Mmc24 :=
  let k := a &&& 0xF000
  let d5 := d.setWidth 5
  if k = 0xA000 then { r with prgBank := d.setWidth 4 }
  else if k = 0xB000 then { r with chrFdLo := d5 }
  else if k = 0xC000 then { r with chrFeLo := d5 }
  else if k = 0xD000 then { r with chrFdHi := d5 }
  else if k = 0xE000 then { r with chrFeHi := d5 }
  else if k = 0xF000 then { r with mirror := d.getLsbD 0 }
  else r

/-- MMC5 mode, protect, nametable and fill registers, $5100–$5107 (63_mappers.md R1171). -/
def Mmc5.writeControl (r : Mmc5) (a : Word) (d : Byte) : Mmc5 :=
  let d2 := d.setWidth 2
  if a = 0x5100 then { r with prgMode := d2 }
  else if a = 0x5101 then { r with chrMode := d2 }
  else if a = 0x5102 then { r with protect1 := d2 }
  else if a = 0x5103 then { r with protect2 := d2 }
  else if a = 0x5104 then { r with exramMode := d2 }
  else if a = 0x5105 then { r with ntMap := d }
  else if a = 0x5106 then { r with fillTile := d }
  else if a = 0x5107 then { r with fillAttr := d2 }
  else r

/-- MMC5 bank registers, $5113–$5130 (63_mappers.md R1171). -/
def Mmc5.writeBank (r : Mmc5) (a : Word) (d : Byte) : Mmc5 :=
  if 0x5113 ≤ a ∧ a ≤ 0x5117 then { r with prgReg := r.prgReg.setIfInBounds (a - 0x5113).toNat d }
  else if 0x5120 ≤ a ∧ a ≤ 0x5127 then { r with chrA := r.chrA.setIfInBounds (a - 0x5120).toNat d, lastSet := .a }
  else if 0x5128 ≤ a ∧ a ≤ 0x512B then { r with chrB := r.chrB.setIfInBounds (a - 0x5128).toNat d, lastSet := .b }
  else if a = 0x5130 then { r with chrUpper := d.setWidth 2 }
  else r

/-- MMC5 split, IRQ and multiplier registers, $5200–$5206 (63_mappers.md R1171, R1183–R1185). -/
def Mmc5.writeIrq (r : Mmc5) (a : Word) (d : Byte) : Mmc5 :=
  if 0x5200 ≤ a ∧ a ≤ 0x5202 then { r with split := r.split.setIfInBounds (a - 0x5200).toNat d }
  else if a = 0x5203 then { r with irqTarget := d }
  else if a = 0x5204 then { r with irqEnable := d.getLsbD 7 }
  else if a = 0x5205 then { r with mulA := d }
  else if a = 0x5206 then { r with mulB := d }
  else r

/-- An MMC5 write at 0x4020–0x5FFF: a register, ExRAM from 0x5C00 on (63_mappers.md R1171, R1177), or nothing. -/
def Mmc5.write (r : Mmc5) (a : Word) (d : Byte) : Mmc5 :=
  if a < 0x5108 then r.writeControl a d
  else if a < 0x5200 then r.writeBank a d
  else if a < 0x5C00 then r.writeIrq a d
  else if a < 0x6000 ∧ r.exramMode ≠ 3 then { r with exram := r.exram.write (a - 0x5C00).toNat d }
  else r

/-- A write to a mapper register at 0x8000 or above, for every mapper but MMC5 (63_mappers.md R1130, R1132, R1141,
R1150–R1155, R1161). -/
def Mapper.write (m : Mapper) (a : Word) (d : Byte) (consecutive : Bool) : Mapper :=
  match m with
  | .nrom => .nrom
  | .mmc1 r => .mmc1 (r.write a d consecutive)
  | .uxrom _ => .uxrom d
  | .cnrom _ => .cnrom d
  | .mmc3 r => .mmc3 (r.write a d)
  | .mmc5 r => .mmc5 r
  | .axrom _ _ => .axrom (d.setWidth 3) (d.getLsbD 4)
  | .mmc2 r => .mmc2 (r.write a d)
  | .mmc4 r => .mmc4 (r.write a d)
  | .colorDreams _ _ => .colorDreams (d.setWidth 2) (d.extractLsb' 4 4)
  | .bnrom _ => .bnrom d
  | .gxrom _ _ => .gxrom (d.extractLsb' 4 2) (d.setWidth 2)

/-- Whether a CPU write to PRG-RAM stores: always, but for MMC5 only with its protect registers at (2, 1)
(63_mappers.md R1103, R1172). -/
def Mapper.prgRamWritable : Mapper → Bool
  | .mmc5 r => r.protect1 == 2 && r.protect2 == 1
  | _ => true

/-- `cpu_write(a, d, consecutive)`, a ≥ 0x4020 (63_mappers.md R1121). -/
def Cart.cpuWrite (c : Cart) (a : Word) (d : Byte) (consecutive : Bool) : Cart :=
  if a < 0x6000 then
    match c.mapper with
    | .mmc5 r => { c with mapper := .mmc5 (r.write a d) }
    | _ => c
  else
    match c.prgTarget a with
    | .ram k => if c.mapper.prgRamWritable then { c with prgRam := c.prgRam.write k d } else c
    | .rom _ => { c with mapper := c.mapper.write a d consecutive }

/-! ## CHR map -/

/-- The index of `ChrByte(bank, size, off)` (63_mappers.md R1100). -/
def Cart.chrByteIndex (c : Cart) (bank size off : Nat) : Nat := (bank * size + off) % c.chrSize

/-- MMC1 CHR map (63_mappers.md R1135). -/
def Mmc1.chrIndex (r : Mmc1) (c : Cart) (n : Nat) : Nat :=
  if r.control.getLsbD 4 then
    if n < 0x1000 then c.chrByteIndex r.chr0.toNat 4096 n else c.chrByteIndex r.chr1.toNat 4096 (n % 0x1000)
  else c.chrByteIndex (r.chr0.toNat / 2) 8192 n

/-- MMC3 CHR map (63_mappers.md R1145): `bank_select[7]` exchanges the two 4 KiB halves. -/
def Mmc3.chrIndex (r : Mmc3) (c : Cart) (n : Nat) : Nat :=
  let m := if r.bankSelect.getLsbD 7 then (n + 0x1000) % 0x2000 else n
  let reg := fun k => (r.r.toList.getD k 0).toNat
  if m < 0x0800 then c.chrByteIndex (reg 0 / 2) 2048 m
  else if m < 0x1000 then c.chrByteIndex (reg 1 / 2) 2048 (m % 0x0800)
  else c.chrByteIndex (reg (2 + m % 0x1000 / 0x400)) 1024 (m % 0x400)

/-- MMC2 and MMC4 CHR map (63_mappers.md R1163). -/
def Mmc24.chrIndex (r : Mmc24) (c : Cart) (n : Nat) : Nat :=
  if n < 0x1000 then
    c.chrByteIndex (match r.latchLo with | .fd => r.chrFdLo | .fe => r.chrFeLo).toNat 4096 n
  else c.chrByteIndex (match r.latchHi with | .fd => r.chrFdHi | .fe => r.chrFeHi).toNat 4096 (n % 0x1000)

/-- What a pattern access is (63_mappers.md R1176, R1180): a fetch of the renderer, with the PPU's sprite size at it (D71), or
any other access. A PPUDATA access is of the second kind, while rendering too (D63; 70_reset_and_hazards.md R1335). -/
inductive PatternUse where
  | fetch (spr16 : Bool)
  | data
deriving DecidableEq, Repr

/-- The register set an MMC5 pattern access uses (63_mappers.md R1176). -/
def Mmc5.chrSet (r : Mmc5) (use : PatternUse) : ChrSet :=
  match use, r.phase with
  | .fetch true, .spr => .a
  | .fetch true, .bg => .b
  | .fetch false, _ | .data, _ => r.lastSet

/-- MMC5 bank size and register value for a pattern address (63_mappers.md R1175). -/
def Mmc5.chrSlot (r : Mmc5) (set : ChrSet) (n : Nat) : Nat × Byte :=
  let a := fun k => r.chrA.toList.getD k 0
  let b := fun k => r.chrB.toList.getD k 0
  match r.chrMode.toNat, set with
  | 0, .a => (8192, a 7)
  | 0, .b => (8192, b 3)
  | 1, .a => (4096, a (n / 4096 * 4 + 3))
  | 1, .b => (4096, b 3)
  | 2, .a => (2048, a (n / 2048 * 2 + 1))
  | 2, .b => (2048, b (n / 2048 % 2 * 2 + 1))
  | _, .a => (1024, a (n / 1024))
  | _, .b => (1024, b (n / 1024 % 4))

/-- MMC5 CHR map (63_mappers.md R1175, R1176): in ExRAM mode 1 the background fetches use the extended bank (R1180). -/
def Mmc5.chrIndex (r : Mmc5) (c : Cart) (use : PatternUse) (n : Nat) : Nat :=
  if use ≠ .data ∧ r.exramMode = 1 ∧ r.phase = .bg then
    c.chrByteIndex (r.chrUpper.toNat * 64 + (r.extByte.extractLsb' 0 6).toNat) 4096 (n % 0x1000)
  else
    let slot := r.chrSlot (r.chrSet use) n
    c.chrByteIndex (r.chrUpper.toNat * 256 + slot.2.toNat) slot.1 (n % slot.1)

/-- The CHR index of a pattern address a < 0x2000 (63_mappers.md R1121, R1130, R1135, R1145, R1150–R1155, R1163,
R1175). Only MMC5 looks at what the access is. -/
def Cart.chrIndex (c : Cart) (use : PatternUse) (a : Word) : Nat :=
  let n := a.toNat
  match c.mapper with
  | .nrom | .uxrom _ | .axrom _ _ | .bnrom _ => c.chrByteIndex 0 8192 n
  | .mmc1 r => r.chrIndex c n
  | .cnrom bank => c.chrByteIndex bank.toNat 8192 n
  | .mmc3 r => r.chrIndex c n
  | .mmc5 r => r.chrIndex c use n
  | .mmc2 r | .mmc4 r => r.chrIndex c n
  | .colorDreams _ bank => c.chrByteIndex bank.toNat 8192 n
  | .gxrom _ bank => c.chrByteIndex bank.toNat 8192 n

/-- `ppu_read(a)`, a < 0x2000 (63_mappers.md R1121; 20_memory.md R262). -/
def Cart.ppuRead (c : Cart) (use : PatternUse) (a : Word) : Byte := c.chr.read (c.chrIndex use a)

/-- `ppu_write(a, v)`, a < 0x2000: stores only into CHR-RAM (63_mappers.md R1104). A write is no fetch. -/
def Cart.ppuWrite (c : Cart) (a : Word) (v : Byte) : Cart :=
  if c.chrIsRam then { c with chr := c.chr.write (c.chrIndex .data a) v } else c

/-! ## Nametables -/

/-- The header's mirroring as a layout. -/
def MirrorHint.layout : MirrorHint → Mirroring
  | .horizontal => .horizontal
  | .vertical => .vertical
  | .fourScreen => .fourScreen

/-- A one-bit mirroring register: 0 vertical, 1 horizontal (63_mappers.md R1146, R1163). -/
def mirrorBit (b : Bool) : Mirroring := if b then .horizontal else .vertical

/-- MMC1 mirroring (63_mappers.md R1133). -/
def Mmc1.mirroring (r : Mmc1) : Mirroring :=
  match (r.control.extractLsb' 0 2).toNat with
  | 0 => .singleA
  | 1 => .singleB
  | 2 => .vertical
  | _ => .horizontal

/-- The layout the mapper's own registers give (63_mappers.md R1130, R1133, R1146, R1150–R1155, R1163, R1178). -/
def Mapper.layout (m : Mapper) (hint : MirrorHint) : Mirroring :=
  match m with
  | .nrom | .uxrom _ | .cnrom _ | .colorDreams _ _ | .bnrom _ | .gxrom _ _ => hint.layout
  | .mmc1 r => r.mirroring
  | .mmc3 r => mirrorBit r.mirror
  | .mmc5 _ => .vertical
  | .axrom _ screen => if screen then .singleB else .singleA
  | .mmc2 r | .mmc4 r => mirrorBit r.mirror

/-- `mirroring()` (63_mappers.md R1121): the four-screen hint wins for every mapper but MMC5. -/
def Cart.mirroring (c : Cart) : Mirroring :=
  match c.mapper with
  | .mmc5 _ => .vertical
  | m => if c.mirrorHint = .fourScreen then .fourScreen else m.layout c.mirrorHint

/-- The physical 1 KiB page of logical nametable `q` (20_memory.md R231). -/
def Mirroring.page (m : Mirroring) (q : Nat) : Nat :=
  match m with
  | .horizontal => q / 2
  | .vertical => q % 2
  | .singleA => 0
  | .singleB => 1
  | .fourScreen => q

/-- The index into CIRAM (below 0x800) or, 0x800 higher, into the four-screen VRAM, for a nametable address n in
0x2000–0x2FFF (20_memory.md R231; log 19). -/
def Mirroring.index (m : Mirroring) (n : Word) : Nat :=
  m.page (n.toNat / 0x400 % 4) * 0x400 + n.toNat % 0x400

/-- Two bits in all four positions of a byte: `b · 0x55` (63_mappers.md R1179). -/
def spread2 (b : BitVec 2) : Byte := b ++ b ++ b ++ b

/-- What an MMC5 nametable is mapped to (63_mappers.md R1178). -/
def Mmc5.ntSelect (r : Mmc5) (n : Word) : Nat := r.ntMap.toNat / 4 ^ (n.toNat / 0x400 % 4) % 4

/-- An MMC5 nametable byte without the extended attributes (63_mappers.md R1178, R1179). -/
def Mmc5.ntByte (r : Mmc5) (ciram : Memory) (n : Word) : Byte :=
  let o := n.toNat % 0x400
  match r.ntSelect n with
  | 0 => ciram.read o
  | 1 => ciram.read (0x400 + o)
  | 2 => if r.exramMode ≤ 1 then r.exram.read o else 0
  | _ => if o < 0x3C0 then r.fillTile else spread2 r.fillAttr

/-- MMC5 `read_nametable(n)` (63_mappers.md R1178, R1180): in ExRAM mode 1 and phase BG a tile read latches the tile's
ExRAM byte and an attribute read answers from it. -/
def Mmc5.readNametable (r : Mmc5) (ciram : Memory) (n : Word) : Byte × Mmc5 :=
  let o := n.toNat % 0x400
  if r.exramMode = 1 ∧ r.phase = .bg then
    if o < 0x3C0 then (r.ntByte ciram n, { r with extByte := r.exram.read o })
    else (spread2 (r.extByte.extractLsb' 6 2), r)
  else (r.ntByte ciram n, r)

/-- MMC5 `write_nametable(n, v)` (63_mappers.md R1178). -/
def Mmc5.writeNametable (r : Mmc5) (ciram : Memory) (n : Word) (v : Byte) : Memory × Mmc5 :=
  let o := n.toNat % 0x400
  match r.ntSelect n with
  | 0 => (ciram.write o v, r)
  | 1 => (ciram.write (0x400 + o) v, r)
  | 2 => if r.exramMode ≤ 1 then (ciram, { r with exram := r.exram.write o v }) else (ciram, r)
  | _ => (ciram, r)

/-- A nametable read at n in 0x2000–0x2FFF: through the override where the mapper declares it, else through the mirroring
map (20_memory.md R230–R232). -/
def Cart.readNametable (c : Cart) (ciram : Memory) (n : Word) : Byte × Cart :=
  match c.mapper with
  | .mmc5 r =>
    let p := r.readNametable ciram n
    (p.1, { c with mapper := .mmc5 p.2 })
  | _ =>
    let k := c.mirroring.index n
    (if k < 0x800 then ciram.read k else c.vram.read (k % 0x800), c)

/-- A nametable write at n in 0x2000–0x2FFF (20_memory.md R230–R232); answers CIRAM and the cartridge. -/
def Cart.writeNametable (c : Cart) (ciram : Memory) (n : Word) (v : Byte) : Memory × Cart :=
  match c.mapper with
  | .mmc5 r =>
    let p := r.writeNametable ciram n v
    (p.1, { c with mapper := .mmc5 p.2 })
  | _ =>
    let k := c.mirroring.index n
    if k < 0x800 then (ciram.write k v, c) else (ciram, { c with vram := c.vram.write (k % 0x800) v })

/-! ## Fetch hooks -/

/-- MMC3 `ClockCounter()` (63_mappers.md R1143). -/
def Mmc3.clockCounter (r : Mmc3) : Mmc3 :=
  let before := r.irqCounter
  let reload := before = 0 ∨ r.irqReload = true
  let after := if reload then r.irqLatch else before - 1
  { r with
    irqCounter := after
    irqReload := if reload then false else r.irqReload
    irqPending := r.irqPending || (after == 0 && before != 0 && r.irqEnabled) }

/-- MMC3 `notify_a12(bit)` (63_mappers.md R1142). -/
def Mmc3.notifyA12 (r : Mmc3) (bit : Bool) : Mmc3 :=
  if bit then { (if 8 ≤ r.a12Low then r.clockCounter else r) with a12Low := 0 }
  else { r with a12Low := r.a12Low + 1 }

/-- MMC2 and MMC4 `latch_access(addr)` (63_mappers.md R1163). -/
def Mmc24.latchAccess (r : Mmc24) (a : Word) : Mmc24 :=
  let k := a &&& 0x1FF0
  if k = 0x0FD0 then { r with latchLo := .fd }
  else if k = 0x0FE0 then { r with latchLo := .fe }
  else if k = 0x1FD0 then { r with latchHi := .fd }
  else if k = 0x1FE0 then { r with latchHi := .fe }
  else r

/-- MMC5 `ScanlineStart()` (63_mappers.md R1181). -/
def Mmc5.scanlineStart (r : Mmc5) : Mmc5 :=
  if r.inFrame then
    let line := r.line + 1
    { r with line := line, irqPending := r.irqPending || line == r.irqTarget }
  else { r with inFrame := true, line := 0 }

/-- MMC5 `ppu_address_update(a)` (63_mappers.md R1181). -/
def Mmc5.addressUpdate (r : Mmc5) (a : Word) : Mmc5 :=
  let run := if 0x2000 ≤ a ∧ a ≤ 0x2FFF ∧ r.lastNt = some a then r.ntRun + 1 else 0
  let r := { r with ntRun := run, lastNt := some a }
  if run = 2 then r.scanlineStart else r

/-- MMC5 `on_scanline(s, rendering)` (63_mappers.md R1182). -/
def Mmc5.onScanline (r : Mmc5) (scanline : Nat) (rendering : Bool) : Mmc5 :=
  if scanline = 239 ∨ rendering = false then { r with inFrame := false, ntRun := 0, lastNt := none } else r

/-- `latch_access(addr)` (63_mappers.md R1120). -/
def Mapper.latchAccess (m : Mapper) (a : Word) : Mapper :=
  match m with
  | .mmc2 r => .mmc2 (r.latchAccess a)
  | .mmc4 r => .mmc4 (r.latchAccess a)
  | m => m

/-- `notify_a12(bit)` (63_mappers.md R1120). -/
def Mapper.notifyA12 (m : Mapper) (bit : Bool) : Mapper :=
  match m with
  | .mmc3 r => .mmc3 (r.notifyA12 bit)
  | m => m

/-- `notify_ppu_a13(bit)` (63_mappers.md R1120, R1186). -/
def Mapper.notifyA13 (m : Mapper) (bit : Bool) : Mapper :=
  match m with
  | .mmc5 r => .mmc5 { r with phase := if bit then .spr else .bg }
  | m => m

/-- `ppu_address_update(addr)` (63_mappers.md R1120). -/
def Mapper.addressUpdate (m : Mapper) (a : Word) : Mapper :=
  match m with
  | .mmc5 r => .mmc5 (r.addressUpdate a)
  | m => m

/-- `on_scanline(scanline, rendering)` (63_mappers.md R1120). -/
def Mapper.onScanline (m : Mapper) (scanline : Nat) (rendering : Bool) : Mapper :=
  match m with
  | .mmc5 r => .mmc5 (r.onScanline scanline rendering)
  | m => m

/-- `mapper_irq_line` (63_mappers.md R1123). -/
def Mapper.irqLine : Mapper → Bool
  | .mmc3 r => r.irqPending
  | .mmc5 r => r.irqPending && r.irqEnable
  | _ => false

end Sys2Proof.Machine
end

