-- ==== Sys2Proof/Machine/PpuBus.lean ====
section
/-! DEFINITION. Open bus (D18) and the PPU bus (20_memory.md R230–R234): pattern tables, nametables and palette, each access
announced to the mapper's address hook. -/

namespace Sys2Proof.Machine

/-! ## Open bus -/

/-- Complete a partly driven byte with an open-bus draw: the undriven bits are FREE (D18, log 1), a fresh draw each time. A
fully driven byte makes no draw. -/
def State.drive (s : State) (d : Driven) : Byte × State :=
  if d.mask = 0xFF then (d.val, s)
  else ((d.val &&& d.mask) ||| (Config.openBus s.draws &&& ~~~d.mask), { s with draws := s.draws + 1 })

/-- A read that nothing drives (D18, D28). -/
def State.openBus (s : State) : Byte × State := s.drive .nothing

/-! ## PPU control fields -/

/-- `inc32`, PPUCTRL bit 2 (61_ppu.md R902). -/
def Ppu.inc32 (p : Ppu) : Bool := p.ctrl.getLsbD 2

/-- `spr_base`: 0x1000 when PPUCTRL bit 3 is set (61_ppu.md R902, R951). -/
def Ppu.sprBase (p : Ppu) : Word := if p.ctrl.getLsbD 3 then 0x1000 else 0

/-- `bg_base`: 0x1000 when PPUCTRL bit 4 is set (61_ppu.md R902, R940). -/
def Ppu.bgBase (p : Ppu) : Word := if p.ctrl.getLsbD 4 then 0x1000 else 0

/-- `spr16`, PPUCTRL bit 5 (61_ppu.md R902). -/
def Ppu.spr16 (p : Ppu) : Bool := p.ctrl.getLsbD 5

/-- `nmi_on`, PPUCTRL bit 7 (61_ppu.md R902). -/
def Ppu.nmiOn (p : Ppu) : Bool := p.ctrl.getLsbD 7

/-- `gray`, PPUMASK bit 0 (61_ppu.md R903). -/
def Ppu.gray (p : Ppu) : Bool := p.mask.getLsbD 0

/-- `bg_left`, PPUMASK bit 1 (61_ppu.md R903). -/
def Ppu.bgLeft (p : Ppu) : Bool := p.mask.getLsbD 1

/-- `spr_left`, PPUMASK bit 2 (61_ppu.md R903). -/
def Ppu.sprLeft (p : Ppu) : Bool := p.mask.getLsbD 2

/-- `bg_on`, PPUMASK bit 3 (61_ppu.md R903). -/
def Ppu.bgOn (p : Ppu) : Bool := p.mask.getLsbD 3

/-- `spr_on`, PPUMASK bit 4 (61_ppu.md R903). -/
def Ppu.sprOn (p : Ppu) : Bool := p.mask.getLsbD 4

/-- `emph`, PPUMASK bits 7–5 (61_ppu.md R903). -/
def Ppu.emph (p : Ppu) : BitVec 3 := p.mask.extractLsb' 5 3

/-- `rendering = bg_on | spr_on` (61_ppu.md R903). -/
def Ppu.rendering (p : Ppu) : Bool := p.bgOn || p.sprOn

/-! ## Mapper hooks -/

/-- Call a mapper hook when the mapper declares its capability; a missing capability skips the call (63_mappers.md R1122). -/
def State.hook (s : State) (declared : Caps → Bool) (call : Mapper → Mapper) : State :=
  match s.cart with
  | some c => if declared c.mapper.caps then { s with cart := some { c with mapper := call c.mapper } } else s
  | none => s

/-- `ppu_address_update(a')`, called first by every PPU bus access (20_memory.md R234). -/
def State.addressHook (s : State) (a : Word) : State := s.hook Caps.addrHook (·.addressUpdate a)

/-! ## The PPU bus -/

/-- The palette index of an address or a colour number: the low five bits, with 0x10, 0x14, 0x18 and 0x1C folded onto 0x00,
0x04, 0x08 and 0x0C (20_memory.md R233). -/
def paletteIndex (p : Nat) : Nat :=
  let i := p % 0x20
  if i = 0x10 ∨ i = 0x14 ∨ i = 0x18 ∨ i = 0x1C then i - 0x10 else i

/-- The nametable address 0x2000–0x2FFF of a PPU address 0x2000–0x3EFF: 0x3000–0x3EFF folds down by 0x1000
(20_memory.md R230). -/
def nametableAddress (a : Word) : Word := if 0x3000 ≤ a then a - 0x1000 else a

/-- A pattern-table read (20_memory.md R230, R262). Without a cartridge nothing drives the bus (log 17). -/
def State.patternRead (s : State) (a : Word) (use : PatternUse) : Byte × State :=
  match s.cart with
  | some c => (c.ppuRead use a, s)
  | none => s.openBus

/-- A nametable read (20_memory.md R230–R232). Without a cartridge nothing drives the bus (log 17). -/
def State.nametableRead (s : State) (n : Word) : Byte × State :=
  match s.cart with
  | some c =>
    let r := c.readNametable s.ppu.ciram n
    (r.1, { s with cart := some r.2 })
  | none => s.openBus

/-- `PpuRead(a)` (20_memory.md R230). `use` is what a pattern access is: PPUDATA's unless the caller says a fetch. -/
def State.ppuBusRead (s : State) (address : Word) (use : PatternUse := .data) : Byte × State :=
  let a := address &&& 0x3FFF
  let s := s.addressHook a
  if a < 0x2000 then s.patternRead a use
  else if a < 0x3F00 then s.nametableRead (nametableAddress a)
  else ((s.ppu.palette.read (paletteIndex a.toNat)).setWidth 8, s)

/-- A pattern-table write (20_memory.md R230; 63_mappers.md R1104). -/
def State.patternWrite (s : State) (a : Word) (v : Byte) : State :=
  match s.cart with
  | some c => { s with cart := some (c.ppuWrite a v) }
  | none => s

/-- A nametable write (20_memory.md R230–R232). -/
def State.nametableWrite (s : State) (n : Word) (v : Byte) : State :=
  match s.cart with
  | some c =>
    let r := c.writeNametable s.ppu.ciram n v
    { s with ppu := { s.ppu with ciram := r.1 }, cart := some r.2 }
  | none => s

/-- `PpuWrite(a, v)` (20_memory.md R230); the palette stores `v & 0x3F` (R233). -/
def State.ppuBusWrite (s : State) (address : Word) (v : Byte) : State :=
  let a := address &&& 0x3FFF
  let s := s.addressHook a
  if a < 0x2000 then s.patternWrite a v
  else if a < 0x3F00 then s.nametableWrite (nametableAddress a) v
  else
    { s with ppu := { s.ppu with palette := s.ppu.palette.write (paletteIndex a.toNat) (v.setWidth 6) } }

end Sys2Proof.Machine
end

