-- ==== Sys2Proof/Machine/Controller.lean ====
section
/-! DEFINITION. The controller ports (62_apu_io.md R1080–R1082). -/

namespace Sys2Proof.Machine

/-- Latch the buttons and restart the shift sequence (62_apu_io.md R1080). -/
def Pad.latch (p : Pad) : Pad := { p with latched := p.buttons, index := 0 }

/-- A write of 0x4016 (62_apu_io.md R1080). -/
def Pads.write (p : Pads) (d : Byte) : Pads :=
  if d.getLsbD 0 then { pad1 := p.pad1.latch, pad2 := p.pad2.latch, strobe := true } else { p with strobe := false }

/-- `ReadPort(p)` (62_apu_io.md R1081): the bit read and the port after it. Past the eighth read the bit is `CtrlTail`
(D46, log 2). -/
def Pad.shift (p : Pad) (strobe : Bool) : Bool × Pad :=
  if strobe then (p.buttons.getLsbD 0, p)
  else
    (if p.index < 8 then p.latched.getLsbD p.index else Config.ctrlTail p.index, { p with index := p.index + 1 })

/-- A read of 0x4016 (62_apu_io.md R1081): bits 7–1 are open bus. -/
def State.readPort1 (s : State) : Byte × State :=
  let r := s.pads.pad1.shift s.pads.strobe
  State.drive { s with pads := { s.pads with pad1 := r.2 } } ⟨flagBit r.1 0, 0x01⟩

/-- A read of 0x4017 (62_apu_io.md R1081): bits 7–1 are open bus. -/
def State.readPort2 (s : State) : Byte × State :=
  let r := s.pads.pad2.shift s.pads.strobe
  State.drive { s with pads := { s.pads with pad2 := r.2 } } ⟨flagBit r.1 0, 0x01⟩

/-- Set button `k` of a port; while the strobe is 1 the latch follows the buttons (62_apu_io.md R1080, R1082; log 16). -/
def Pad.setButton (p : Pad) (strobe : Bool) (k : Nat) (down : Bool) : Pad :=
  let bit : Byte := 1 <<< k
  let buttons := if down then p.buttons ||| bit else p.buttons &&& ~~~bit
  { p with buttons := buttons, latched := if strobe then buttons else p.latched }

end Sys2Proof.Machine
end

