-- ==== Sys2Proof/Machine/PpuRegs.lean ====
section
/-! DEFINITION. The PPU registers the CPU reaches at 0x2000–0x3FFF (61_ppu.md R911–R921). OAMDMA reads the CPU bus and stands
in Machine/Bus.lean. -/

namespace Sys2Proof.Machine

/-- PPUSTATUS read (61_ppu.md R912): bits 4–0 are open bus; the read clears VBlank and `w`. -/
def State.readStatus (s : State) : Byte × State :=
  let p := s.ppu
  let val := flagBit p.vblank 7 ||| flagBit p.spr0Hit 6 ||| flagBit p.overflow 5
  State.drive { s with ppu := { p with vblank := false, w := false } } ⟨val, 0xE0⟩

/-- `v <- (v + (inc32 ? 32 : 1)) & 0x7FFF` (61_ppu.md R917). -/
def Ppu.incV (p : Ppu) : Ppu := { p with v := p.v + (if p.inc32 then 32 else 1) }

/-- PPUDATA read (61_ppu.md R917): buffered below 0x3F00; a palette read answers at once and buffers the nametable byte
under it (D33). -/
def State.readData (s : State) : Byte × State :=
  let a : Word := s.ppu.v.setWidth 16 &&& 0x3FFF
  if a < 0x3F00 then
    let r := s.ppuBusRead a
    (s.ppu.readBuffer, { r.2 with ppu := { r.2.ppu with readBuffer := r.1 }.incV })
  else
    let r := s.ppuBusRead a
    let b := r.2.ppuBusRead (a - 0x1000)
    (r.1, { b.2 with ppu := { b.2.ppu with readBuffer := b.1 }.incV })

/-- PPUDATA write (61_ppu.md R917). -/
def State.writeData (s : State) (d : Byte) : State :=
  let s := s.ppuBusWrite (s.ppu.v.setWidth 16 &&& 0x3FFF) d
  { s with ppu := s.ppu.incV }

/-- PPUCTRL write (61_ppu.md R919); the late NMI of R936 depends on the parameter `NmiOnLateEnable` (D11). -/
def State.writeCtrl (s : State) (d : Byte) : State :=
  let p := s.ppu
  let q := { p with
    ctrl := d
    t := (p.t &&& ~~~(0x0C00 : BitVec 15)) ||| ((d.setWidth 15 &&& 3) <<< 10) }
  let late := s.params.nmiOnLateEnable && !p.nmiOn && q.nmiOn && p.vblank
  { s with ppu := q, nmiPending := s.nmiPending || late }

/-- PPUSCROLL write (61_ppu.md R915). -/
def Ppu.writeScroll (p : Ppu) (d : Byte) : Ppu :=
  let d15 : BitVec 15 := d.setWidth 15
  if p.w then
    { p with t := (p.t &&& ~~~(0x73E0 : BitVec 15)) ||| ((d15 &&& 7) <<< 12) ||| ((d15 >>> 3) <<< 5), w := false }
  else { p with t := (p.t &&& ~~~(0x001F : BitVec 15)) ||| (d15 >>> 3), x := d.setWidth 3, w := true }

/-- PPUADDR write (61_ppu.md R916). -/
def Ppu.writeAddr (p : Ppu) (d : Byte) : Ppu :=
  let d15 : BitVec 15 := d.setWidth 15
  if p.w then
    let t := (p.t &&& 0x7F00) ||| d15
    { p with t := t, v := t, w := false }
  else { p with t := (p.t &&& 0x00FF) ||| ((d15 &&& 0x3F) <<< 8), w := true }

/-- OAMDATA write (61_ppu.md R914). -/
def Ppu.writeOam (p : Ppu) (d : Byte) : Ppu :=
  { p with oam := p.oam.write p.oamAddr.toNat d, oamAddr := p.oamAddr + 1 }

/-- A CPU read of PPU register `k` = address & 7 (61_ppu.md R911, R921). -/
def State.ppuRegRead (s : State) (k : Nat) : Byte × State :=
  match k with
  | 2 => s.readStatus
  | 4 => (s.ppu.oam.read s.ppu.oamAddr.toNat, s)
  | 7 => s.readData
  | _ => s.openBus

/-- A CPU write of PPU register `k` = address & 7 (61_ppu.md R911, R920, R921). -/
def State.ppuRegWrite (s : State) (k : Nat) (d : Byte) : State :=
  match k with
  | 0 => s.writeCtrl d
  | 1 => { s with ppu := { s.ppu with mask := d } }
  | 3 => { s with ppu := { s.ppu with oamAddr := d } }
  | 4 => { s with ppu := s.ppu.writeOam d }
  | 5 => { s with ppu := s.ppu.writeScroll d }
  | 6 => { s with ppu := s.ppu.writeAddr d }
  | 7 => s.writeData d
  | _ => s

end Sys2Proof.Machine
end

