-- ==== Sys2Proof/Machine/Bus.lean ====
section
/-! DEFINITION. The CPU bus decoder (20_memory.md R202): every `MemRead` and `MemWrite` of the CPU, of OAM DMA and of the
DMC reader. -/

namespace Sys2Proof.Machine

/-- The index of a CPU RAM address: 2 KiB mirrored four times (20_memory.md R203). -/
def ramIndex (a : Word) : Nat := (a &&& 0x07FF).toNat

/-- A read of 0x4015 (62_apu_io.md R1070): bit 5 is open bus; the read clears the frame IRQ. -/
def State.readApuStatus (s : State) : Byte × State :=
  let val := s.apu.statusByte
  State.drive { s with apu := { s.apu with frame := { s.apu.frame with irq := false } } } ⟨val, 0xDF⟩

/-- `cpu_read(a)` of the mapper (63_mappers.md R1121). Without a cartridge nothing drives the bus (log 17). -/
def State.cartRead (s : State) (a : Word) : Byte × State :=
  match s.cart with
  | some c =>
    let r := c.cpuRead a
    State.drive { s with cart := some r.2 } r.1
  | none => s.openBus

/-- `cpu_write(a, v, consecutive)` of the mapper (63_mappers.md R1121). -/
def State.cartWrite (s : State) (a : Word) (v : Byte) (consecutive : Bool) : State :=
  match s.cart with
  | some c => { s with cart := some (c.cpuWrite a v consecutive) }
  | none => s

/-- `MemRead(a, 1)` (00_scope.md R14; 20_memory.md R202): the byte and the state after the read's side effects. -/
def State.busRead (s : State) (a : Word) : Byte × State :=
  if a < 0x2000 then (s.ram.read (ramIndex a), s)
  else if a < 0x4000 then s.ppuRegRead (a &&& 7).toNat
  else if a = 0x4015 then s.readApuStatus
  else if a = 0x4016 then s.readPort1
  else if a = 0x4017 then s.readPort2
  else if a < 0x4020 then s.openBus
  else s.cartRead a

/-- One byte of an OAM DMA: entry `i` of page `d` goes to OAM at `oamaddr + i` (61_ppu.md R918). -/
def State.oamCopyByte (s : State) (d i : Byte) : State :=
  let r := s.busRead (word d i)
  let s := r.2
  { s with ppu := { s.ppu with oam := s.ppu.oam.write (s.ppu.oamAddr + i).toNat r.1 } }

/-- The bytes of an OAM DMA from entry `256 - n` on, `n` entries left (61_ppu.md R918). -/
def State.oamCopy (d : Byte) : Nat → State → State
  | 0, s => s
  | n + 1, s => State.oamCopy d n (s.oamCopyByte d (BitVec.ofNat 8 (255 - n)))

/-- A write of 0x4014: copy the page into OAM at once and stall the CPU for 513 cycles (61_ppu.md R918; 60_exceptions.md
R850). -/
def State.writeOamDma (s : State) (d : Byte) : State :=
  let s := State.oamCopy d 256 s
  { s with halt := s.halt + 513 }

/-- `MemWrite(a, 1, v)` (00_scope.md R14; 20_memory.md R202). `consecutive` is true for the second write of a
read-modify-write instruction only (63_mappers.md R1121). -/
def State.busWrite (s : State) (a : Word) (v : Byte) (consecutive : Bool) : State :=
  if a < 0x2000 then { s with ram := s.ram.write (ramIndex a) v }
  else if a < 0x4000 then s.ppuRegWrite (a &&& 7).toNat v
  else if a < 0x4014 then { s with apu := s.apu.writeChannel (a - 0x4000).toNat v }
  else if a = 0x4014 then s.writeOamDma v
  else if a = 0x4015 then { s with apu := s.apu.writeEnables v }
  else if a = 0x4016 then { s with pads := s.pads.write v }
  else if a = 0x4017 then { s with apu := s.apu.writeFrame v }
  else if a < 0x4020 then s
  else s.cartWrite a v consecutive

end Sys2Proof.Machine
end

