-- ==== Sys2Proof/Machine/PpuRender.lean ====
section
/-! DEFINITION. The PPU's dot: VBlank and NMI (61_ppu.md R935), the background pipeline (R940–R946), sprite evaluation and
fetches (R950, R951), the pixel (R952–R957), the mapper signals (R946, R948) and the position (R931). -/

namespace Sys2Proof.Machine

/-! ## Scroll updates -/

/-- `IncCoarseX()` (61_ppu.md R942). -/
def incCoarseX (v : BitVec 15) : BitVec 15 :=
  if v &&& 0x001F = 31 then (v &&& ~~~(0x001F : BitVec 15)) ^^^ 0x0400 else v + 1

/-- `IncY()` (61_ppu.md R943). -/
def incY (v : BitVec 15) : BitVec 15 :=
  if v &&& 0x7000 ≠ 0x7000 then v + 0x1000
  else
    let v := v &&& ~~~(0x7000 : BitVec 15)
    let cy := (v &&& 0x03E0) >>> 5
    let rest := v &&& ~~~(0x03E0 : BitVec 15)
    if cy = 29 then rest ^^^ 0x0800
    else if cy = 31 then rest
    else rest ||| ((cy + 1) <<< 5)

/-- `CopyHorizontal()` (61_ppu.md R944). -/
def copyHorizontal (v t : BitVec 15) : BitVec 15 := (v &&& ~~~(0x041F : BitVec 15)) ||| (t &&& 0x041F)

/-- `CopyVertical()` (61_ppu.md R945). -/
def copyVertical (v t : BitVec 15) : BitVec 15 := (v &&& ~~~(0x7BE0 : BitVec 15)) ||| (t &&& 0x7BE0)

/-- `v` after the scroll updates of a dot on a rendered scanline (61_ppu.md R940): at dots 256, 257 and, on scanline 261,
280 to 304. -/
def Ppu.scrollDot (p : Ppu) : Ppu :=
  let v := if p.dot = 256 then incY p.v else p.v
  let v := if p.dot = 257 then copyHorizontal v p.t else v
  let v := if p.scanline = 261 ∧ 280 ≤ p.dot ∧ p.dot ≤ 304 then copyVertical v p.t else v
  { p with v := v }

/-! ## Background shifters -/

/-- `ShiftBg()` (61_ppu.md R952). -/
def BgPipe.shift (b : BgPipe) : BgPipe :=
  { b with bgLo := b.bgLo <<< 1, bgHi := b.bgHi <<< 1, atLo := b.atLo <<< 1, atHi := b.atHi <<< 1 }

/-- A shifter with its low byte replaced. -/
def withLow (r : BitVec 16) (b : Byte) : BitVec 16 := (r &&& 0xFF00) ||| b.setWidth 16

/-- `ReloadBg()` (61_ppu.md R952). -/
def BgPipe.reload (b : BgPipe) : BgPipe :=
  { b with
    bgLo := withLow b.bgLo b.ptLo
    bgHi := withLow b.bgHi b.ptHi
    atLo := withLow b.atLo (if b.atLatch.getLsbD 0 then 0xFF else 0)
    atHi := withLow b.atHi (if b.atLatch.getLsbD 1 then 0xFF else 0) }

/-- The dots at which the shifters shift (61_ppu.md R940). -/
def shiftDot (dot : Nat) : Bool := (2 ≤ dot && dot ≤ 257) || (322 ≤ dot && dot ≤ 337)

/-- The dots at which the shifters reload (61_ppu.md R940). -/
def reloadDot (dot : Nat) : Bool := (9 ≤ dot && dot ≤ 257 && dot % 8 == 1) || dot == 329 || dot == 337

/-- Shift, then reload, as the dot says (61_ppu.md R940, R952). -/
def Ppu.shiftDotActions (p : Ppu) : Ppu :=
  let b := if shiftDot p.dot then p.bg.shift else p.bg
  let b := if reloadDot p.dot then b.reload else b
  { p with bg := b }

/-! ## Fetches -/

/-- The nametable address of `v` (61_ppu.md R940, R941). -/
def ntAddress (v : BitVec 15) : Word := 0x2000 ||| (v.setWidth 16 &&& 0x0FFF)

/-- The attribute address of `v` (61_ppu.md R940, R941). -/
def atAddress (v : BitVec 15) : Word :=
  let v : Word := v.setWidth 16
  0x23C0 ||| (v &&& 0x0C00) ||| ((v >>> 4) &&& 0x38) ||| ((v >>> 2) &&& 0x07)

/-- How far the attribute byte is shifted for `v` (61_ppu.md R940, R941). -/
def atShift (v : BitVec 15) : Nat := (((v >>> 4) &&& 4) ||| (v &&& 2)).toNat

/-- The low-plane address of the background tile (61_ppu.md R940). -/
def Ppu.bgAddress (p : Ppu) : Word :=
  p.bgBase ||| (p.bg.ntLatch.setWidth 16 <<< 4) ||| ((p.v.setWidth 16 >>> 12) &&& 7)

/-- What a fetch of the renderer is to the mapper (63_mappers.md R1176, D71): MMC5 sees `spr16` and `rendering`. -/
def Ppu.fetchUse (p : Ppu) : PatternUse := if p.rendering then .fetch p.spr16 else .data

/-- `PatternFetch(a)` (61_ppu.md R946): read, then the A12 report and the latch report, each only for a mapper that declares
it. With `BgLatchFetches` = 32 the prefetches at dots 321–336 are not reported to the latch (D30). -/
def State.patternFetch (s : State) (a : Word) : Byte × State :=
  let r := s.ppuBusRead a s.ppu.fetchUse
  let t := r.2.hook Caps.scanlineIrq (·.notifyA12 (a.getLsbD 12))
  let quiet := s.params.bgLatchFetches == .fetches32 && 321 ≤ s.ppu.dot && s.ppu.dot ≤ 336
  (r.1, t.hook (fun c => c.chrLatch && !quiet) (·.latchAccess a))

/-- Replace the background latches and shifters. -/
def State.setBg (s : State) (b : BgPipe) : State := { s with ppu := { s.ppu with bg := b } }

/-- The background fetch of a dot in 1–256 or 321–336 (61_ppu.md R940). -/
def State.bgFetch (s : State) : State :=
  match (s.ppu.dot - 1) % 8 with
  | 0 =>
    let r := s.ppuBusRead (ntAddress s.ppu.v)
    r.2.setBg { r.2.ppu.bg with ntLatch := r.1 }
  | 2 =>
    let r := s.ppuBusRead (atAddress s.ppu.v)
    r.2.setBg { r.2.ppu.bg with atLatch := (r.1 >>> atShift s.ppu.v).setWidth 2 }
  | 4 =>
    let r := s.patternFetch s.ppu.bgAddress
    r.2.setBg { r.2.ppu.bg with ptLo := r.1 }
  | 6 =>
    let r := s.patternFetch (s.ppu.bgAddress ||| 8)
    r.2.setBg { r.2.ppu.bg with ptHi := r.1 }
  | 7 => { s with ppu := { s.ppu with v := incCoarseX s.ppu.v } }
  | _ => s

/-- An unused nametable read (61_ppu.md R940, R951). -/
def State.unusedRead (s : State) : State := (s.ppuBusRead (ntAddress s.ppu.v)).2

/-- The background actions of a dot on a rendered scanline, in the order of 61_ppu.md R940. -/
def State.bgDot (s : State) : State :=
  let dot := s.ppu.dot
  let s := { s with ppu := s.ppu.shiftDotActions }
  let s := if (1 ≤ dot ∧ dot ≤ 256) ∨ (321 ≤ dot ∧ dot ≤ 336) then s.bgFetch else s
  let s := { s with ppu := s.ppu.scrollDot }
  if dot = 337 ∨ dot = 339 then s.unusedRead else s

/-! ## Sprites -/

/-- The sprite height (61_ppu.md R905, R950). -/
def Ppu.sprHeight (p : Ppu) : Nat := if p.spr16 then 16 else 8

/-- The sprites in range of the next scanline, in index order (61_ppu.md R950). -/
def Ppu.inRange (p : Ppu) : List Nat :=
  (List.range 64).filter fun i =>
    let y := (p.oam.read (4 * i)).toNat
    y ≤ p.scanline && p.scanline < y + p.sprHeight

/-- The secondary OAM entry of sprite `i` (61_ppu.md R950). -/
def Ppu.spriteEntry (p : Ppu) (i : Nat) : SpriteEntry :=
  ⟨i, p.oam.read (4 * i), p.oam.read (4 * i + 1), p.oam.read (4 * i + 2), p.oam.read (4 * i + 3)⟩

/-- `Evaluate(s)`, and the empty list of the pre-render scanline (61_ppu.md R950). -/
def Ppu.evaluate (p : Ppu) : Ppu :=
  if p.scanline = 261 then { p with secondary := [], spr0InLine := false }
  else
    let found := p.inRange
    { p with
      secondary := (found.take 8).map p.spriteEntry
      spr0InLine := found.head? == some 0
      overflow := p.overflow || decide (8 < found.length) }

/-- Sprite slot `j` of the fetches (61_ppu.md R951): empty beyond the list, and on the pre-render scanline whatever the list
holds (D64). -/
def Ppu.slot (p : Ppu) (j : Nat) : Option SpriteEntry := if p.scanline = 261 then none else p.secondary[j]?

/-- `SpriteAddr(j)` (61_ppu.md R951); an empty slot fetches tile 0xFF, row 0 (D64). DEDUCED (log 14): the row is an
unsigned byte. -/
def Ppu.spriteAddress (p : Ppu) (j : Nat) : Word :=
  let (tile, attr, row) : Byte × Byte × Byte :=
    match p.slot j with
    | some e => (e.tile, e.attr, BitVec.ofNat 8 p.scanline - e.y)
    | none => (0xFF, 0, 0)
  let row := if attr.getLsbD 7 then BitVec.ofNat 8 p.sprHeight - 1 - row else row
  if p.spr16 then
    let half : Word := if 8 ≤ row then 1 else 0
    ((tile.setWidth 16 &&& 1) <<< 12) ||| (((tile.setWidth 16 &&& 0xFE) + half) <<< 4) ||| (row.setWidth 16 &&& 7)
  else p.sprBase ||| (tile.setWidth 16 <<< 4) ||| row.setWidth 16

/-- Load sprite unit `j` from its two pattern bytes, or empty it (61_ppu.md R951). -/
def Ppu.loadUnit (p : Ppu) (j : Nat) (low high : Byte) : Ppu :=
  let u :=
    match p.slot j with
    | some e =>
      let flip := fun b => if e.attr.getLsbD 6 then reverseByte b else b
      ⟨flip low, flip high, e.attr, e.x, true⟩
    | none => { p.units.toList.getD j .empty with valid := false }
  { p with units := p.units.setIfInBounds j u }

/-- The low plane `lo` of the slot (61_ppu.md R951). R951 states none when rendering was off at the slot's low-plane fetch and
is on at its high-plane fetch: then a FREE VALUE (log 15). -/
def State.spriteLow (s : State) : Byte × State :=
  match s.ppu.sprLoLatch with
  | some lo => (lo, s)
  | none => (Config.spriteLow s.draws, { s with draws := s.draws + 1 })

/-- `lo` of 61_ppu.md R951 lives until the dot of its slot's high-plane fetch, rendered or not (log 21). -/
def State.endLow (s : State) : State :=
  if s.ppu.dot % 8 = 7 then { s with ppu := { s.ppu with sprLoLatch := none } } else s

/-- The sprite fetch of a dot in 257–320 (61_ppu.md R951). -/
def State.spriteFetch (s : State) : State :=
  let j := (s.ppu.dot - 257) / 8
  match (s.ppu.dot - 257) % 8 with
  | 0 | 2 => s.unusedRead
  | 4 =>
    let r := s.patternFetch (s.ppu.spriteAddress j)
    { r.2 with ppu := { r.2.ppu with sprLoLatch := some r.1 } }
  | 6 =>
    let r := s.patternFetch (s.ppu.spriteAddress j ||| 8)
    let lo := r.2.spriteLow
    { lo.2 with ppu := lo.2.ppu.loadUnit j lo.1 r.1 }
  | _ => s

/-- The sprite actions of a dot on a rendered scanline (61_ppu.md R950, R951). -/
def State.spriteDot (s : State) : State :=
  let s := if s.ppu.dot = 257 then { s with ppu := s.ppu.evaluate } else s
  if 257 ≤ s.ppu.dot ∧ s.ppu.dot ≤ 320 then s.spriteFetch else s

/-! ## Pixel -/

/-- `OutputColour(i)` (61_ppu.md R955). -/
def Ppu.outputColour (p : Ppu) (i : Nat) : Rgb :=
  let c := p.palette.read (paletteIndex i)
  Config.masterPalette (if p.gray then c &&& 0x30 else c) p.emph

/-- Two bits as a number, high bit first. -/
def twoBits (h l : Bool) : Nat := 2 * h.toNat + l.toNat

/-- A sprite unit's pixel at column `px`; 0 when it does not cover the column (61_ppu.md R953). DEDUCED (log 22): the difference
`px − sp_x` of the test is an integer, so a sprite does not wrap around the right edge. -/
def SpriteUnit.pixel (u : SpriteUnit) (px : Nat) : Nat :=
  if u.valid ∧ u.x.toNat ≤ px ∧ px < u.x.toNat + 8 then
    let k := 7 - (px - u.x.toNat)
    twoBits (u.hi.getLsbD k) (u.lo.getLsbD k)
  else 0

/-- `bg_raw` (61_ppu.md R953). -/
def Ppu.bgRaw (p : Ppu) : Nat :=
  if p.bgOn then twoBits (p.bg.bgHi.getLsbD (15 - p.x.toNat)) (p.bg.bgLo.getLsbD (15 - p.x.toNat)) else 0

/-- `bg_pal` (61_ppu.md R953). -/
def Ppu.bgPal (p : Ppu) : Nat :=
  twoBits (p.bg.atHi.getLsbD (15 - p.x.toNat)) (p.bg.atLo.getLsbD (15 - p.x.toNat))

/-- The first slot with an opaque pixel at column `px`: its pixel and its attributes; pixel 0 when there is none or sprites
are off (61_ppu.md R953). -/
def Ppu.sprRaw (p : Ppu) (px : Nat) : Nat × Byte :=
  if p.sprOn then
    match p.units.toList.find? (fun u => u.pixel px != 0) with
    | some u => (u.pixel px, u.attr)
    | none => (0, 0)
  else (0, 0)

/-- `SpriteZeroTest` (61_ppu.md R954). -/
def Ppu.spriteZeroTest (p : Ppu) (xMinClipped px : Nat) : Bool :=
  let clip := !p.bgLeft || !p.sprLeft
  let p0 := (p.units.toList.getD 0 .empty).pixel px
  p.spr0InLine && p0 != 0 && p.bgRaw != 0 && p.bgOn && p.sprOn && px ≤ 254 &&
    decide ((if clip then xMinClipped else 0) ≤ px)

/-- The colour number of the pixel at column `px` (61_ppu.md R953). -/
def Ppu.pixelIndex (p : Ppu) (px : Nat) : Nat :=
  let sr := p.sprRaw px
  let bg := if px < 8 ∧ p.bgLeft = false then 0 else p.bgRaw
  let spr := if px < 8 ∧ p.sprLeft = false then 0 else sr.1
  let sprIndex := 0x10 + 4 * (sr.2.extractLsb' 0 2).toNat + spr
  let bgIndex := 4 * p.bgPal + bg
  if bg = 0 then (if spr = 0 then 0 else sprIndex)
  else if spr = 0 then bgIndex
  else if sr.2.getLsbD 5 then bgIndex
  else sprIndex

/-- Put a pixel into the framebuffer (61_ppu.md R953, R955). -/
def Ppu.plot (p : Ppu) (px : Nat) (colour : Rgb) : Ppu :=
  { p with framebuffer := p.framebuffer.write (256 * p.scanline + px) colour }

/-- The pixel of a dot in 1–256 of a scanline in 0–239 (61_ppu.md R953), or the backdrop when rendering is off (R957). -/
def Ppu.pixelDot (p : Ppu) (xMinClipped : Nat) : Ppu :=
  let px := p.dot - 1
  if p.rendering then
    { p with spr0Hit := p.spr0Hit || p.spriteZeroTest xMinClipped px }.plot px (p.outputColour (p.pixelIndex px))
  else p.plot px (p.outputColour 0)

/-! ## The dot -/

/-- VBlank, its clear and the NMI it raises (61_ppu.md R935). -/
def State.vblankDot (s : State) : State :=
  let p := s.ppu
  if p.scanline = 241 ∧ p.dot = 1 then
    { s with ppu := { p with vblank := true }, nmiPending := s.nmiPending || p.nmiOn }
  else if p.scanline = 261 ∧ p.dot = 1 then
    { s with ppu := { p with vblank := false, spr0Hit := false, overflow := false } }
  else s

/-- A scanline that is rendered at this dot (61_ppu.md R932). -/
def Ppu.rendered (p : Ppu) : Bool := (p.scanline < 240 || p.scanline == 261) && p.rendering

/-- `notify_ppu_a13` at dots 257, 321 and 1 of a rendered scanline (61_ppu.md R948, D57). -/
def State.phaseDot (s : State) : State :=
  if s.ppu.dot = 257 then s.hook Caps.ppuA13 (·.notifyA13 true)
  else if s.ppu.dot = 321 ∨ s.ppu.dot = 1 then s.hook Caps.ppuA13 (·.notifyA13 false)
  else s

/-- The actions of the current scanline and dot (61_ppu.md R931). DESIGN CHOICE (log 13): the order where no rule gives
one. -/
def State.dotActions (s : State) : State :=
  let s := s.vblankDot
  let s := State.endLow (if s.ppu.rendered then s.phaseDot.bgDot.spriteDot else s)
  if s.ppu.scanline < 240 ∧ 1 ≤ s.ppu.dot ∧ s.ppu.dot ≤ 256 then
    { s with ppu := s.ppu.pixelDot s.params.spr0XMinClipped }
  else s

/-- The position after a dot (61_ppu.md R931), with the end-of-scanline hook (R948). At the end of the frame the framebuffer is
handed over as it stands (20_memory.md R251, D29). -/
def State.nextDot (s : State) : State :=
  let p := s.ppu
  let skip := p.scanline = 261 ∧ p.dot = 339 ∧ p.oddFrame = true ∧ p.bgOn = true
  let dot := (if skip then 340 else p.dot) + 1
  if dot = 341 then
    let s := s.hook Caps.scanlineHook (·.onScanline p.scanline p.rendering)
    if p.scanline + 1 = 262 then
      { s with ppu := { s.ppu with
        scanline := 0, dot := 0, oddFrame := !p.oddFrame, frameComplete := true, frameOut := s.ppu.framebuffer } }
    else { s with ppu := { s.ppu with scanline := p.scanline + 1, dot := 0 } }
  else { s with ppu := { p with dot := dot } }

/-- `PpuTick()` (61_ppu.md R931). -/
def State.ppuTick (s : State) : State := s.dotActions.nextDot

/-- `PpuAdvance(n)` (61_ppu.md R930). -/
def State.ppuAdvance : Nat → State → State
  | 0, s => s
  | n + 1, s => State.ppuAdvance n s.ppuTick

end Sys2Proof.Machine
end

