-- ==== Sys2Proof/Machine/Clock.lean ====
section
/-! DEFINITION. The device clocks of a step: the APU cycle with the DMC memory reader (62_apu_io.md R1062, R1090), and the
advance of both devices through the step's cycles (20_memory.md R250). -/

namespace Sys2Proof.Machine

/-- The DMC registers after a sample byte is read from `cur_addr` (62_apu_io.md R1062). -/
def Dmc.accept (d : Dmc) (v : Byte) : Dmc :=
  let d := { d with
    buffer := v
    bufferFull := true
    curAddr := if d.curAddr = 0xFFFF then 0x8000 else d.curAddr + 1
    remaining := d.remaining - 1 }
  if d.remaining = 0 then
    if d.loop then d.restart else { d with irq := d.irq || d.irqEn }
  else d

/-- `DmcReader()` (62_apu_io.md R1062, R1064): a CPU-bus read with its side effects, and no stall. -/
def State.dmcReader (s : State) : State :=
  let d := s.apu.dmc
  if d.bufferFull = false ∧ d.remaining ≠ 0 then
    let r := s.busRead d.curAddr
    { r.2 with apu := { r.2.apu with dmc := r.2.apu.dmc.accept r.1 } }
  else s

/-- The timers of an APU cycle, up to the DMC output unit (62_apu_io.md R1090). -/
def Apu.timers (u : Apu) : Apu :=
  let u := { u with tri := u.tri.timerClock }
  let u :=
    if u.parity then
      { u with p1 := u.p1.timerClock, p2 := u.p2.timerClock, noise := u.noise.timerClock }
    else u
  { u with dmc := u.dmc.timerClock }

/-- `apu_parity` flips, then `OutputCycle()` (62_apu_io.md R1090, R1092). -/
def Apu.finishCycle (u : Apu) (params : Params) : Apu :=
  { u with
    parity := !u.parity
    out := u.out.cycle Config.mixNumerics params.sampleRate params.cpuClockHz (u.mix Config.mixNumerics) }

/-- `ApuCycle()` (62_apu_io.md R1090). -/
def State.apuCycle (s : State) : State :=
  let s := { s with apu := s.apu.frameTick.timers }
  let s := s.dmcReader
  { s with apu := s.apu.finishCycle s.params }

/-- `ApuAdvance(n)` (62_apu_io.md R1090). -/
def State.apuAdvance : Nat → State → State
  | 0, s => s
  | n + 1, s => State.apuAdvance n s.apuCycle

/-- The end of a step of `stepCycles` cycles: count them, then the APU, then three dots per cycle (20_memory.md R250). -/
def State.advance (s : State) : State :=
  let n := s.stepCycles
  State.ppuAdvance (3 * n) (State.apuAdvance n { s with cpuCycles := s.cpuCycles + n })

end Sys2Proof.Machine
end

