-- ==== Sys2Proof/Machine/Flags.lean ====
section
/-! DEFINITION. Flag computations and the status byte (10_state.md R111–R114; 00_scope.md R15; 42_arithmetic_compare.md R500,
R501; 43_logic_shift.md R550). Each is a function on the CPU registers alone. -/

namespace Sys2Proof.Machine

/-- `SetNZ(v)` (00_scope.md R15). -/
def Cpu.setNZ (r : Cpu) (v : Byte) : Cpu := { r with n := v.msb, z := v == 0 }

/-- The status byte image `P` (10_state.md R112): bit 5 is 1, bit 4 is 0. -/
def Cpu.status (r : Cpu) : Byte :=
  flagBit r.n 7 ||| flagBit r.v 6 ||| 0x20 ||| flagBit r.d 3 ||| flagBit r.i 2 ||| flagBit r.z 1 ||| flagBit r.c 0

/-- `PushedStatus(b)` (10_state.md R113). -/
def Cpu.pushedStatus (r : Cpu) (b : Bool) : Byte := r.status ||| 0x20 ||| flagBit b 4

/-- `LoadStatus(s)` (10_state.md R114): bits 4 and 5 are ignored. -/
def Cpu.loadStatus (r : Cpu) (p : Byte) : Cpu :=
  { r with
    c := p.getLsbD 0
    z := p.getLsbD 1
    i := p.getLsbD 2
    d := p.getLsbD 3
    v := p.getLsbD 6
    n := p.getLsbD 7 }

/-- `AddCore(m)` (42_arithmetic_compare.md R500): binary whatever D is (D1). -/
def Cpu.addCore (r : Cpu) (m : Byte) : Cpu :=
  let sum := r.a.toNat + m.toNat + r.c.toNat
  let res : Byte := BitVec.ofNat 8 sum
  Cpu.setNZ { r with
    v := (r.a ^^^ res) &&& (m ^^^ res) &&& 0x80 != 0
    c := decide (0xFF < sum)
    a := res } res

/-- `CompareCore(r, m)` (42_arithmetic_compare.md R501). -/
def Cpu.compareCore (r : Cpu) (reg m : Byte) : Cpu := Cpu.setNZ { r with c := decide (m ≤ reg) } (reg - m)

/-- `ShiftL(v)` (43_logic_shift.md R550): the result byte and the flags. -/
def Cpu.shiftL (r : Cpu) (v : Byte) : Byte × Cpu :=
  let res := v <<< 1
  (res, Cpu.setNZ { r with c := v.getLsbD 7 } res)

/-- `ShiftR(v)` (43_logic_shift.md R550). -/
def Cpu.shiftR (r : Cpu) (v : Byte) : Byte × Cpu :=
  let res := v >>> 1
  (res, Cpu.setNZ { r with c := v.getLsbD 0 } res)

/-- `RotL(v)` (43_logic_shift.md R550): the carry before the instruction enters at bit 0. -/
def Cpu.rotL (r : Cpu) (v : Byte) : Byte × Cpu :=
  let res := (v <<< 1) ||| flagBit r.c 0
  (res, Cpu.setNZ { r with c := v.getLsbD 7 } res)

/-- `RotR(v)` (43_logic_shift.md R550): the carry before the instruction enters at bit 7. -/
def Cpu.rotR (r : Cpu) (v : Byte) : Byte × Cpu :=
  let res := (v >>> 1) ||| flagBit r.c 7
  (res, Cpu.setNZ { r with c := v.getLsbD 0 } res)

/-- The byte of INC (42_arithmetic_compare.md R507). -/
def Cpu.incByte (r : Cpu) (v : Byte) : Byte × Cpu := (v + 1, r.setNZ (v + 1))

/-- The byte of DEC (42_arithmetic_compare.md R508). -/
def Cpu.decByte (r : Cpu) (v : Byte) : Byte × Cpu := (v - 1, r.setNZ (v - 1))

end Sys2Proof.Machine
end

