-- ==== Sys2Proof/Machine/Ops.lean ====
section
/-! DEFINITION. The named operations the instructions and the gate share: register updates, cycle counting, multi-byte reads
(20_memory.md R220–R222), the stack (10_state.md R105, R106), interrupt entry and return (60_exceptions.md R822–R825, R835)
and the gate (R820). -/

namespace Sys2Proof.Machine

/-! ## Registers and cycles -/

/-- Replace the CPU registers. -/
def State.setCpu (s : State) (r : Cpu) : State := { s with cpu := r }

/-- `PC <- target` (00_scope.md R13). -/
def State.setPc (s : State) (a : Word) : State := s.setCpu { s.cpu with pc := a }

/-- Count CPU cycles of the step in progress (20_memory.md R250; log 11). -/
def State.addCycles (s : State) (n : Nat) : State := { s with stepCycles := s.stepCycles + n }

/-! ## Multi-byte reads -/

/-- Two byte reads, the low byte first, as one word. -/
def State.readPair (s : State) (low high : Word) : Word × State :=
  let l := s.busRead low
  let h := l.2.busRead high
  (word h.1 l.1, h.2)

/-- `Read16(a)` (20_memory.md R220). -/
def State.read16 (s : State) (a : Word) : Word × State := s.readPair a (a + 1)

/-- `Read16Bug(a)`: the high byte comes from the same page (20_memory.md R221). -/
def State.read16Bug (s : State) (a : Word) : Word × State :=
  s.readPair a ((a &&& 0xFF00) ||| ((a + 1) &&& 0x00FF))

/-- `ReadZp16(z)`: the pointer wraps in page zero (20_memory.md R222). -/
def State.readZp16 (s : State) (z : Byte) : Word × State := s.readPair (zext16 z) (zext16 (z + 1))

/-! ## Stack -/

/-- The address of the stack byte SP points at: 0x0100 | SP (10_state.md R104). -/
def stackAddress (sp : Byte) : Word := 0x0100 ||| zext16 sp

/-- `Push(v)` (10_state.md R105). -/
def State.push (s : State) (v : Byte) : State :=
  let t := s.busWrite (stackAddress s.cpu.sp) v false
  t.setCpu { t.cpu with sp := t.cpu.sp - 1 }

/-- `Pull()` (10_state.md R106). -/
def State.pull (s : State) : Byte × State :=
  let t := s.setCpu { s.cpu with sp := s.cpu.sp + 1 }
  t.busRead (stackAddress t.cpu.sp)

/-- `Push(hi(r)); Push(lo(r))` (44_control_transfer.md R602). -/
def State.pushWord (s : State) (r : Word) : State := (s.push (hi r)).push (lo r)

/-- `lo <- Pull(); hi <- Pull()` (44_control_transfer.md R603). -/
def State.pullWord (s : State) : Word × State :=
  let l := s.pull
  let h := l.2.pull
  (word h.1 l.1, h.2)

/-! ## Taking and returning from an exception -/

/-- `Enter(vector, ret, b)`, the entry NMI, IRQ and BRK share (60_exceptions.md R825): PC and status pushed, I set, PC read
from the vector. -/
def State.enter (s : State) (vector ret : Word) (b : Bool) : State :=
  let s := s.pushWord ret
  let s := s.push (s.cpu.pushedStatus b)
  let s := s.setCpu { s.cpu with i := true }
  let r := s.read16 vector
  r.2.setPc r.1

/-- The return of RTI (45_stack_flags_system.md R663; 60_exceptions.md R835). -/
def State.leave (s : State) : State :=
  let p := s.pull
  let s := p.2.setCpu (p.2.cpu.loadStatus p.1)
  let r := s.pullWord
  r.2.setPc r.1

/-- `DoReset()` (60_exceptions.md R822). -/
def State.doReset (s : State) : State :=
  let s := { s with resetRequest := false, nmiPending := false, halt := 0, crashed := none }
  let s := s.setCpu { s.cpu with i := true }
  let r := s.read16 0xFFFC
  r.2.setPc r.1

/-- `DoNmi()` (60_exceptions.md R823). -/
def State.doNmi (s : State) : State := State.enter { s with nmiPending := false } 0xFFFA s.cpu.pc false

/-- `DoIrq()` (60_exceptions.md R824). -/
def State.doIrq (s : State) : State := s.enter 0xFFFE s.cpu.pc false

/-- `mapper_irq_line`; 0 without a cartridge (63_mappers.md R1123). -/
def State.mapperIrq (s : State) : Bool :=
  match s.cart with
  | some c => c.mapper.irqLine
  | none => false

/-- `IrqLine()` (60_exceptions.md R821). -/
def State.irqLine (s : State) : Bool := s.apu.frame.irq || s.apu.dmc.irq || s.mapperIrq

/-- The cycles of an interrupt or RESET entry (60_exceptions.md R826). -/
def entryCycles : Nat := 7

/-- `Gate()` (60_exceptions.md R820): at most one event, RESET before NMI before IRQ. -/
def State.gate (s : State) : State :=
  if s.resetRequest then s.doReset.addCycles entryCycles
  else if s.nmiPending then s.doNmi.addCycles entryCycles
  else if s.irqLine && !s.cpu.i then s.doIrq.addCycles entryCycles
  else s

end Sys2Proof.Machine
end

