-- ==== Sys2Proof/Machine/Operands.lean ====
section
/-! DEFINITION. The addressing modes (40_addressing.md R403–R415), the operand helpers Load, Store and Modify (R402), and the
shapes the instructions share: reads, stores, read-modify-writes, implied forms and branches, each counting its cycles
(R417, R418). -/

namespace Sys2Proof.Machine

/-- What an addressing mode computes: the effective address, whether indexing crossed a page, and the state after the
mode's pointer reads. -/
structure Resolved where
  ea : Word
  crossed : Bool
  st : State

/-- `base + index` with the page-cross test (40_addressing.md R410, R411, R414). -/
def indexed (base : Word) (index : Byte) (s : State) : Resolved :=
  let ea := base + zext16 index
  ⟨ea, hi base != hi ea, s⟩

/-- The effective address of each memory mode (40_addressing.md R406–R411, R413, R414). -/
def State.resolve (s : State) (m : MemMode) : Resolved :=
  match m with
  | .zp b1 => ⟨zext16 b1, false, s⟩
  | .zpx b1 => ⟨zext16 (b1 + s.cpu.x), false, s⟩
  | .zpy b1 => ⟨zext16 (b1 + s.cpu.y), false, s⟩
  | .abs w => ⟨w, false, s⟩
  | .absx w => indexed w s.cpu.x s
  | .absy w => indexed w s.cpu.y s
  | .indx b1 =>
    let p := s.readZp16 (b1 + s.cpu.x)
    ⟨p.1, false, p.2⟩
  | .indy b1 =>
    let p := s.readZp16 b1
    indexed p.1 s.cpu.y p.2

/-- A loaded operand: its value, whether a page was crossed, and the state after the reads. -/
structure Loaded where
  val : Byte
  crossed : Bool
  st : State

/-- `Load()` from a memory mode: one read at the effective address (40_addressing.md R402). -/
def State.loadMem (s : State) (m : MemMode) : Loaded :=
  let r := s.resolve m
  let v := r.st.busRead r.ea
  ⟨v.1, r.crossed, v.2⟩

/-- `Load()` (40_addressing.md R402). A form with no data operand loads nothing; no meaning asks for one. -/
def State.load (s : State) (o : Operand) : Loaded :=
  match o with
  | .imm b1 => ⟨b1, false, s⟩
  | .acc => ⟨s.cpu.a, false, s⟩
  | .mem m => s.loadMem m
  | .imp | .ind _ | .rel _ => ⟨0, false, s⟩

/-- The page-cross cycle of a read instruction (40_addressing.md R417). -/
def crossCycle (crossed : Bool) : Nat := if crossed then 1 else 0

/-- A read instruction: load, act on the registers, count the base cycles and the page-cross cycle. -/
def State.readOp (s : State) (f : Cpu → Byte → Cpu) (o : Operand) (base : Nat) : State :=
  let l := s.load o
  (l.st.setCpu (f l.st.cpu l.val)).addCycles (base + crossCycle l.crossed)

/-- A store: resolve, then one write; no page-cross cycle (40_addressing.md R402, R417). -/
def State.storeOp (s : State) (value : Cpu → Byte) (m : MemMode) (base : Nat) : State :=
  let r := s.resolve m
  (r.st.busWrite r.ea (value r.st.cpu) false).addCycles base

/-- `Modify(f)` on memory: read, write the old value, write the new one on the next cycle; then `g` acts on the registers
with the new value (40_addressing.md R402; 20_memory.md R216; 46_unofficial.md section 3). -/
def State.modifyOp (s : State) (f : Cpu → Byte → Byte × Cpu) (g : Cpu → Byte → Cpu) (m : MemMode) (base : Nat) : State :=
  let r := s.resolve m
  let v := r.st.busRead r.ea
  let t := v.2.busWrite r.ea v.1 false
  let q := f t.cpu v.1
  let u := (t.setCpu q.2).busWrite r.ea q.1 true
  (u.setCpu (g u.cpu q.1)).addCycles base

/-- An instruction on the registers alone (40_addressing.md R403, R404). -/
def State.impliedOp (s : State) (f : Cpu → Cpu) (base : Nat) : State := (s.setCpu (f s.cpu)).addCycles base

/-- `Modify(f)` on the accumulator (40_addressing.md R402, R404). -/
def Cpu.modifyA (r : Cpu) (f : Cpu → Byte → Byte × Cpu) : Cpu := { (f r r.a).2 with a := (f r r.a).1 }

/-- A branch target (40_addressing.md R415): PC already stands after the branch. -/
def branchTarget (pc : Word) (b1 : Byte) : Word := pc + sext16 b1

/-- `BranchCore(cond)` (44_control_transfer.md R600) with the base cycles. -/
def State.branchOp (s : State) (cond : Cpu → Bool) (b1 : Byte) (base : Nat) : State :=
  if cond s.cpu then
    let target := branchTarget s.cpu.pc b1
    (s.setPc target).addCycles (base + (if hi target ≠ hi s.cpu.pc then 2 else 1))
  else s.addCycles base

end Sys2Proof.Machine
end

