-- ==== Sys2Proof/Machine/Arithmetic.lean ====
section
/-! DEFINITION. Arithmetic, compare, increment and decrement instructions (42_arithmetic_compare.md): what each
mnemonic does to the registers, then one meaning per opcode row with its addressing mode and base cycles. PC already stands
after the instruction (40_addressing.md R401; log 12). -/

namespace Sys2Proof.Machine

/-- SBC on the registers (42_arithmetic_compare.md R503). -/
def Cpu.sbc (r : Cpu) (m : Byte) : Cpu := r.addCore (~~~m)

/-- CMP on the registers (42_arithmetic_compare.md R504). -/
def Cpu.cmp (r : Cpu) (m : Byte) : Cpu := r.compareCore r.a m

/-- CPX on the registers (42_arithmetic_compare.md R505). -/
def Cpu.cpx (r : Cpu) (m : Byte) : Cpu := r.compareCore r.x m

/-- CPY on the registers (42_arithmetic_compare.md R506). -/
def Cpu.cpy (r : Cpu) (m : Byte) : Cpu := r.compareCore r.y m

/-- Nothing more happens to the registers after the memory byte is modified. -/
def Cpu.keep (r : Cpu) (_ : Byte) : Cpu := r

/-- INX on the registers (42_arithmetic_compare.md R509). -/
def Cpu.inx (r : Cpu) : Cpu := Cpu.setNZ { r with x := r.x + 1 } (r.x + 1)

/-- INY on the registers (42_arithmetic_compare.md R510). -/
def Cpu.iny (r : Cpu) : Cpu := Cpu.setNZ { r with y := r.y + 1 } (r.y + 1)

/-- DEX on the registers (42_arithmetic_compare.md R511). -/
def Cpu.dex (r : Cpu) : Cpu := Cpu.setNZ { r with x := r.x - 1 } (r.x - 1)

/-- DEY on the registers (42_arithmetic_compare.md R512). -/
def Cpu.dey (r : Cpu) : Cpu := Cpu.setNZ { r with y := r.y - 1 } (r.y - 1)

/-- ADC pre-indexed indirect, opcode 0x61 (42_arithmetic_compare.md R502). -/
def execAdcIndx (b1 : Byte) (s : State) : Result := .next (s.readOp Cpu.addCore (.mem (.indx b1)) 6)

/-- ADC zero-page, opcode 0x65 (42_arithmetic_compare.md R502). -/
def execAdcZp (b1 : Byte) (s : State) : Result := .next (s.readOp Cpu.addCore (.mem (.zp b1)) 3)

/-- ADC immediate, opcode 0x69 (42_arithmetic_compare.md R502). -/
def execAdcImm (b1 : Byte) (s : State) : Result := .next (s.readOp Cpu.addCore (.imm b1) 2)

/-- ADC absolute, opcode 0x6D (42_arithmetic_compare.md R502). -/
def execAdcAbs (w : Word) (s : State) : Result := .next (s.readOp Cpu.addCore (.mem (.abs w)) 4)

/-- ADC post-indexed indirect, opcode 0x71 (42_arithmetic_compare.md R502). -/
def execAdcIndy (b1 : Byte) (s : State) : Result := .next (s.readOp Cpu.addCore (.mem (.indy b1)) 5)

/-- ADC zero-page-X, opcode 0x75 (42_arithmetic_compare.md R502). -/
def execAdcZpx (b1 : Byte) (s : State) : Result := .next (s.readOp Cpu.addCore (.mem (.zpx b1)) 4)

/-- ADC absolute-Y, opcode 0x79 (42_arithmetic_compare.md R502). -/
def execAdcAbsy (w : Word) (s : State) : Result := .next (s.readOp Cpu.addCore (.mem (.absy w)) 4)

/-- ADC absolute-X, opcode 0x7D (42_arithmetic_compare.md R502). -/
def execAdcAbsx (w : Word) (s : State) : Result := .next (s.readOp Cpu.addCore (.mem (.absx w)) 4)

/-- SBC pre-indexed indirect, opcode 0xE1 (42_arithmetic_compare.md R503). -/
def execSbcIndx (b1 : Byte) (s : State) : Result := .next (s.readOp Cpu.sbc (.mem (.indx b1)) 6)

/-- SBC zero-page, opcode 0xE5 (42_arithmetic_compare.md R503). -/
def execSbcZp (b1 : Byte) (s : State) : Result := .next (s.readOp Cpu.sbc (.mem (.zp b1)) 3)

/-- SBC immediate, opcode 0xE9 (42_arithmetic_compare.md R503). -/
def execSbcImm (b1 : Byte) (s : State) : Result := .next (s.readOp Cpu.sbc (.imm b1) 2)

/-- SBC absolute, opcode 0xED (42_arithmetic_compare.md R503). -/
def execSbcAbs (w : Word) (s : State) : Result := .next (s.readOp Cpu.sbc (.mem (.abs w)) 4)

/-- SBC post-indexed indirect, opcode 0xF1 (42_arithmetic_compare.md R503). -/
def execSbcIndy (b1 : Byte) (s : State) : Result := .next (s.readOp Cpu.sbc (.mem (.indy b1)) 5)

/-- SBC zero-page-X, opcode 0xF5 (42_arithmetic_compare.md R503). -/
def execSbcZpx (b1 : Byte) (s : State) : Result := .next (s.readOp Cpu.sbc (.mem (.zpx b1)) 4)

/-- SBC absolute-Y, opcode 0xF9 (42_arithmetic_compare.md R503). -/
def execSbcAbsy (w : Word) (s : State) : Result := .next (s.readOp Cpu.sbc (.mem (.absy w)) 4)

/-- SBC absolute-X, opcode 0xFD (42_arithmetic_compare.md R503). -/
def execSbcAbsx (w : Word) (s : State) : Result := .next (s.readOp Cpu.sbc (.mem (.absx w)) 4)

/-- CMP pre-indexed indirect, opcode 0xC1 (42_arithmetic_compare.md R504). -/
def execCmpIndx (b1 : Byte) (s : State) : Result := .next (s.readOp Cpu.cmp (.mem (.indx b1)) 6)

/-- CMP zero-page, opcode 0xC5 (42_arithmetic_compare.md R504). -/
def execCmpZp (b1 : Byte) (s : State) : Result := .next (s.readOp Cpu.cmp (.mem (.zp b1)) 3)

/-- CMP immediate, opcode 0xC9 (42_arithmetic_compare.md R504). -/
def execCmpImm (b1 : Byte) (s : State) : Result := .next (s.readOp Cpu.cmp (.imm b1) 2)

/-- CMP absolute, opcode 0xCD (42_arithmetic_compare.md R504). -/
def execCmpAbs (w : Word) (s : State) : Result := .next (s.readOp Cpu.cmp (.mem (.abs w)) 4)

/-- CMP post-indexed indirect, opcode 0xD1 (42_arithmetic_compare.md R504). -/
def execCmpIndy (b1 : Byte) (s : State) : Result := .next (s.readOp Cpu.cmp (.mem (.indy b1)) 5)

/-- CMP zero-page-X, opcode 0xD5 (42_arithmetic_compare.md R504). -/
def execCmpZpx (b1 : Byte) (s : State) : Result := .next (s.readOp Cpu.cmp (.mem (.zpx b1)) 4)

/-- CMP absolute-Y, opcode 0xD9 (42_arithmetic_compare.md R504). -/
def execCmpAbsy (w : Word) (s : State) : Result := .next (s.readOp Cpu.cmp (.mem (.absy w)) 4)

/-- CMP absolute-X, opcode 0xDD (42_arithmetic_compare.md R504). -/
def execCmpAbsx (w : Word) (s : State) : Result := .next (s.readOp Cpu.cmp (.mem (.absx w)) 4)

/-- CPX immediate, opcode 0xE0 (42_arithmetic_compare.md R505). -/
def execCpxImm (b1 : Byte) (s : State) : Result := .next (s.readOp Cpu.cpx (.imm b1) 2)

/-- CPX zero-page, opcode 0xE4 (42_arithmetic_compare.md R505). -/
def execCpxZp (b1 : Byte) (s : State) : Result := .next (s.readOp Cpu.cpx (.mem (.zp b1)) 3)

/-- CPX absolute, opcode 0xEC (42_arithmetic_compare.md R505). -/
def execCpxAbs (w : Word) (s : State) : Result := .next (s.readOp Cpu.cpx (.mem (.abs w)) 4)

/-- CPY immediate, opcode 0xC0 (42_arithmetic_compare.md R506). -/
def execCpyImm (b1 : Byte) (s : State) : Result := .next (s.readOp Cpu.cpy (.imm b1) 2)

/-- CPY zero-page, opcode 0xC4 (42_arithmetic_compare.md R506). -/
def execCpyZp (b1 : Byte) (s : State) : Result := .next (s.readOp Cpu.cpy (.mem (.zp b1)) 3)

/-- CPY absolute, opcode 0xCC (42_arithmetic_compare.md R506). -/
def execCpyAbs (w : Word) (s : State) : Result := .next (s.readOp Cpu.cpy (.mem (.abs w)) 4)

/-- INC zero-page, opcode 0xE6 (42_arithmetic_compare.md R507). -/
def execIncZp (b1 : Byte) (s : State) : Result := .next (s.modifyOp Cpu.incByte Cpu.keep (.zp b1) 5)

/-- INC absolute, opcode 0xEE (42_arithmetic_compare.md R507). -/
def execIncAbs (w : Word) (s : State) : Result := .next (s.modifyOp Cpu.incByte Cpu.keep (.abs w) 6)

/-- INC zero-page-X, opcode 0xF6 (42_arithmetic_compare.md R507). -/
def execIncZpx (b1 : Byte) (s : State) : Result := .next (s.modifyOp Cpu.incByte Cpu.keep (.zpx b1) 6)

/-- INC absolute-X, opcode 0xFE (42_arithmetic_compare.md R507). -/
def execIncAbsx (w : Word) (s : State) : Result := .next (s.modifyOp Cpu.incByte Cpu.keep (.absx w) 7)

/-- DEC zero-page, opcode 0xC6 (42_arithmetic_compare.md R508). -/
def execDecZp (b1 : Byte) (s : State) : Result := .next (s.modifyOp Cpu.decByte Cpu.keep (.zp b1) 5)

/-- DEC absolute, opcode 0xCE (42_arithmetic_compare.md R508). -/
def execDecAbs (w : Word) (s : State) : Result := .next (s.modifyOp Cpu.decByte Cpu.keep (.abs w) 6)

/-- DEC zero-page-X, opcode 0xD6 (42_arithmetic_compare.md R508). -/
def execDecZpx (b1 : Byte) (s : State) : Result := .next (s.modifyOp Cpu.decByte Cpu.keep (.zpx b1) 6)

/-- DEC absolute-X, opcode 0xDE (42_arithmetic_compare.md R508). -/
def execDecAbsx (w : Word) (s : State) : Result := .next (s.modifyOp Cpu.decByte Cpu.keep (.absx w) 7)

/-- INX, opcode 0xE8 (42_arithmetic_compare.md R509). -/
def execInx (s : State) : Result := .next (s.impliedOp Cpu.inx 2)

/-- INY, opcode 0xC8 (42_arithmetic_compare.md R510). -/
def execIny (s : State) : Result := .next (s.impliedOp Cpu.iny 2)

/-- DEX, opcode 0xCA (42_arithmetic_compare.md R511). -/
def execDex (s : State) : Result := .next (s.impliedOp Cpu.dex 2)

/-- DEY, opcode 0x88 (42_arithmetic_compare.md R512). -/
def execDey (s : State) : Result := .next (s.impliedOp Cpu.dey 2)

end Sys2Proof.Machine
end

