-- ==== Sys2Proof/Machine/Control.lean ====
section
/-! DEFINITION. Jump, subroutine and branch instructions (44_control_transfer.md): what each
mnemonic does to the registers, then one meaning per opcode row with its addressing mode and base cycles. PC already stands
after the instruction (40_addressing.md R401; log 12). -/

namespace Sys2Proof.Machine

/-- JMP through a pointer (44_control_transfer.md R601; 20_memory.md R221). -/
def State.jumpIndirect (s : State) (ptr : Word) : State :=
  let r := s.read16Bug ptr
  r.2.setPc r.1

/-- JSR: push the address of its last byte, then jump (44_control_transfer.md R602). -/
def State.callSub (s : State) (target : Word) : State := (s.pushWord (s.cpu.pc - 1)).setPc target

/-- RTS: pull the address and add one (44_control_transfer.md R603). -/
def State.returnSub (s : State) : State :=
  let r := s.pullWord
  r.2.setPc (r.1 + 1)

/-- JMP absolute, opcode 0x4C (44_control_transfer.md R601). -/
def execJmpAbs (w : Word) (s : State) : Result := .next ((s.setPc w).addCycles 3)

/-- JMP indirect, opcode 0x6C (44_control_transfer.md R601). -/
def execJmpInd (w : Word) (s : State) : Result := .next ((s.jumpIndirect w).addCycles 5)

/-- JSR absolute, opcode 0x20 (44_control_transfer.md R602). -/
def execJsrAbs (w : Word) (s : State) : Result := .next ((s.callSub w).addCycles 6)

/-- RTS, opcode 0x60 (44_control_transfer.md R603). -/
def execRts (s : State) : Result := .next (s.returnSub.addCycles 6)

/-- BCC, opcode 0x90 (44_control_transfer.md R604). -/
def execBcc (b1 : Byte) (s : State) : Result := .next (s.branchOp (fun r => !r.c) b1 2)

/-- BCS, opcode 0xB0 (44_control_transfer.md R605). -/
def execBcs (b1 : Byte) (s : State) : Result := .next (s.branchOp (fun r => r.c) b1 2)

/-- BEQ, opcode 0xF0 (44_control_transfer.md R606). -/
def execBeq (b1 : Byte) (s : State) : Result := .next (s.branchOp (fun r => r.z) b1 2)

/-- BMI, opcode 0x30 (44_control_transfer.md R607). -/
def execBmi (b1 : Byte) (s : State) : Result := .next (s.branchOp (fun r => r.n) b1 2)

/-- BNE, opcode 0xD0 (44_control_transfer.md R608). -/
def execBne (b1 : Byte) (s : State) : Result := .next (s.branchOp (fun r => !r.z) b1 2)

/-- BPL, opcode 0x10 (44_control_transfer.md R609). -/
def execBpl (b1 : Byte) (s : State) : Result := .next (s.branchOp (fun r => !r.n) b1 2)

/-- BVC, opcode 0x50 (44_control_transfer.md R610). -/
def execBvc (b1 : Byte) (s : State) : Result := .next (s.branchOp (fun r => !r.v) b1 2)

/-- BVS, opcode 0x70 (44_control_transfer.md R611). -/
def execBvs (b1 : Byte) (s : State) : Result := .next (s.branchOp (fun r => r.v) b1 2)

end Sys2Proof.Machine
end

