-- ==== Sys2Proof/Machine/LoadStore.lean ====
section
/-! DEFINITION. Load, store and register transfer instructions (41_load_store_transfer.md): what each
mnemonic does to the registers, then one meaning per opcode row with its addressing mode and base cycles. PC already stands
after the instruction (40_addressing.md R401; log 12). -/

namespace Sys2Proof.Machine

/-- LDA on the registers (41_load_store_transfer.md R451). -/
def Cpu.lda (r : Cpu) (v : Byte) : Cpu := Cpu.setNZ { r with a := v } v

/-- LDX on the registers (41_load_store_transfer.md R452). -/
def Cpu.ldx (r : Cpu) (v : Byte) : Cpu := Cpu.setNZ { r with x := v } v

/-- LDY on the registers (41_load_store_transfer.md R453). -/
def Cpu.ldy (r : Cpu) (v : Byte) : Cpu := Cpu.setNZ { r with y := v } v

/-- TAX on the registers (41_load_store_transfer.md R457). -/
def Cpu.tax (r : Cpu) : Cpu := Cpu.setNZ { r with x := r.a } r.a

/-- TAY on the registers (41_load_store_transfer.md R458). -/
def Cpu.tay (r : Cpu) : Cpu := Cpu.setNZ { r with y := r.a } r.a

/-- TSX on the registers (41_load_store_transfer.md R459). -/
def Cpu.tsx (r : Cpu) : Cpu := Cpu.setNZ { r with x := r.sp } r.sp

/-- TXA on the registers (41_load_store_transfer.md R460). -/
def Cpu.txa (r : Cpu) : Cpu := Cpu.setNZ { r with a := r.x } r.x

/-- TXS on the registers: no flag is written (41_load_store_transfer.md R461). -/
def Cpu.txs (r : Cpu) : Cpu := { r with sp := r.x }

/-- TYA on the registers (41_load_store_transfer.md R462). -/
def Cpu.tya (r : Cpu) : Cpu := Cpu.setNZ { r with a := r.y } r.y

/-- LDA pre-indexed indirect, opcode 0xA1 (41_load_store_transfer.md R451). -/
def execLdaIndx (b1 : Byte) (s : State) : Result := .next (s.readOp Cpu.lda (.mem (.indx b1)) 6)

/-- LDA zero-page, opcode 0xA5 (41_load_store_transfer.md R451). -/
def execLdaZp (b1 : Byte) (s : State) : Result := .next (s.readOp Cpu.lda (.mem (.zp b1)) 3)

/-- LDA immediate, opcode 0xA9 (41_load_store_transfer.md R451). -/
def execLdaImm (b1 : Byte) (s : State) : Result := .next (s.readOp Cpu.lda (.imm b1) 2)

/-- LDA absolute, opcode 0xAD (41_load_store_transfer.md R451). -/
def execLdaAbs (w : Word) (s : State) : Result := .next (s.readOp Cpu.lda (.mem (.abs w)) 4)

/-- LDA post-indexed indirect, opcode 0xB1 (41_load_store_transfer.md R451). -/
def execLdaIndy (b1 : Byte) (s : State) : Result := .next (s.readOp Cpu.lda (.mem (.indy b1)) 5)

/-- LDA zero-page-X, opcode 0xB5 (41_load_store_transfer.md R451). -/
def execLdaZpx (b1 : Byte) (s : State) : Result := .next (s.readOp Cpu.lda (.mem (.zpx b1)) 4)

/-- LDA absolute-Y, opcode 0xB9 (41_load_store_transfer.md R451). -/
def execLdaAbsy (w : Word) (s : State) : Result := .next (s.readOp Cpu.lda (.mem (.absy w)) 4)

/-- LDA absolute-X, opcode 0xBD (41_load_store_transfer.md R451). -/
def execLdaAbsx (w : Word) (s : State) : Result := .next (s.readOp Cpu.lda (.mem (.absx w)) 4)

/-- LDX immediate, opcode 0xA2 (41_load_store_transfer.md R452). -/
def execLdxImm (b1 : Byte) (s : State) : Result := .next (s.readOp Cpu.ldx (.imm b1) 2)

/-- LDX zero-page, opcode 0xA6 (41_load_store_transfer.md R452). -/
def execLdxZp (b1 : Byte) (s : State) : Result := .next (s.readOp Cpu.ldx (.mem (.zp b1)) 3)

/-- LDX absolute, opcode 0xAE (41_load_store_transfer.md R452). -/
def execLdxAbs (w : Word) (s : State) : Result := .next (s.readOp Cpu.ldx (.mem (.abs w)) 4)

/-- LDX zero-page-Y, opcode 0xB6 (41_load_store_transfer.md R452). -/
def execLdxZpy (b1 : Byte) (s : State) : Result := .next (s.readOp Cpu.ldx (.mem (.zpy b1)) 4)

/-- LDX absolute-Y, opcode 0xBE (41_load_store_transfer.md R452). -/
def execLdxAbsy (w : Word) (s : State) : Result := .next (s.readOp Cpu.ldx (.mem (.absy w)) 4)

/-- LDY immediate, opcode 0xA0 (41_load_store_transfer.md R453). -/
def execLdyImm (b1 : Byte) (s : State) : Result := .next (s.readOp Cpu.ldy (.imm b1) 2)

/-- LDY zero-page, opcode 0xA4 (41_load_store_transfer.md R453). -/
def execLdyZp (b1 : Byte) (s : State) : Result := .next (s.readOp Cpu.ldy (.mem (.zp b1)) 3)

/-- LDY absolute, opcode 0xAC (41_load_store_transfer.md R453). -/
def execLdyAbs (w : Word) (s : State) : Result := .next (s.readOp Cpu.ldy (.mem (.abs w)) 4)

/-- LDY zero-page-X, opcode 0xB4 (41_load_store_transfer.md R453). -/
def execLdyZpx (b1 : Byte) (s : State) : Result := .next (s.readOp Cpu.ldy (.mem (.zpx b1)) 4)

/-- LDY absolute-X, opcode 0xBC (41_load_store_transfer.md R453). -/
def execLdyAbsx (w : Word) (s : State) : Result := .next (s.readOp Cpu.ldy (.mem (.absx w)) 4)

/-- STA pre-indexed indirect, opcode 0x81 (41_load_store_transfer.md R454). -/
def execStaIndx (b1 : Byte) (s : State) : Result := .next (s.storeOp Cpu.a (.indx b1) 6)

/-- STA zero-page, opcode 0x85 (41_load_store_transfer.md R454). -/
def execStaZp (b1 : Byte) (s : State) : Result := .next (s.storeOp Cpu.a (.zp b1) 3)

/-- STA absolute, opcode 0x8D (41_load_store_transfer.md R454). -/
def execStaAbs (w : Word) (s : State) : Result := .next (s.storeOp Cpu.a (.abs w) 4)

/-- STA post-indexed indirect, opcode 0x91 (41_load_store_transfer.md R454). -/
def execStaIndy (b1 : Byte) (s : State) : Result := .next (s.storeOp Cpu.a (.indy b1) 6)

/-- STA zero-page-X, opcode 0x95 (41_load_store_transfer.md R454). -/
def execStaZpx (b1 : Byte) (s : State) : Result := .next (s.storeOp Cpu.a (.zpx b1) 4)

/-- STA absolute-Y, opcode 0x99 (41_load_store_transfer.md R454). -/
def execStaAbsy (w : Word) (s : State) : Result := .next (s.storeOp Cpu.a (.absy w) 5)

/-- STA absolute-X, opcode 0x9D (41_load_store_transfer.md R454). -/
def execStaAbsx (w : Word) (s : State) : Result := .next (s.storeOp Cpu.a (.absx w) 5)

/-- STX zero-page, opcode 0x86 (41_load_store_transfer.md R455). -/
def execStxZp (b1 : Byte) (s : State) : Result := .next (s.storeOp Cpu.x (.zp b1) 3)

/-- STX absolute, opcode 0x8E (41_load_store_transfer.md R455). -/
def execStxAbs (w : Word) (s : State) : Result := .next (s.storeOp Cpu.x (.abs w) 4)

/-- STX zero-page-Y, opcode 0x96 (41_load_store_transfer.md R455). -/
def execStxZpy (b1 : Byte) (s : State) : Result := .next (s.storeOp Cpu.x (.zpy b1) 4)

/-- STY zero-page, opcode 0x84 (41_load_store_transfer.md R456). -/
def execStyZp (b1 : Byte) (s : State) : Result := .next (s.storeOp Cpu.y (.zp b1) 3)

/-- STY absolute, opcode 0x8C (41_load_store_transfer.md R456). -/
def execStyAbs (w : Word) (s : State) : Result := .next (s.storeOp Cpu.y (.abs w) 4)

/-- STY zero-page-X, opcode 0x94 (41_load_store_transfer.md R456). -/
def execStyZpx (b1 : Byte) (s : State) : Result := .next (s.storeOp Cpu.y (.zpx b1) 4)

/-- TAX, opcode 0xAA (41_load_store_transfer.md R457). -/
def execTax (s : State) : Result := .next (s.impliedOp Cpu.tax 2)

/-- TAY, opcode 0xA8 (41_load_store_transfer.md R458). -/
def execTay (s : State) : Result := .next (s.impliedOp Cpu.tay 2)

/-- TSX, opcode 0xBA (41_load_store_transfer.md R459). -/
def execTsx (s : State) : Result := .next (s.impliedOp Cpu.tsx 2)

/-- TXA, opcode 0x8A (41_load_store_transfer.md R460). -/
def execTxa (s : State) : Result := .next (s.impliedOp Cpu.txa 2)

/-- TXS, opcode 0x9A (41_load_store_transfer.md R461). -/
def execTxs (s : State) : Result := .next (s.impliedOp Cpu.txs 2)

/-- TYA, opcode 0x98 (41_load_store_transfer.md R462). -/
def execTya (s : State) : Result := .next (s.impliedOp Cpu.tya 2)

end Sys2Proof.Machine
end

