-- ==== Sys2Proof/Machine/Logic.lean ====
section
/-! DEFINITION. Logical, bit test, shift and rotate instructions (43_logic_shift.md): what each
mnemonic does to the registers, then one meaning per opcode row with its addressing mode and base cycles. PC already stands
after the instruction (40_addressing.md R401; log 12). -/

namespace Sys2Proof.Machine

/-- AND on the registers (43_logic_shift.md R551). -/
def Cpu.and (r : Cpu) (m : Byte) : Cpu := Cpu.setNZ { r with a := r.a &&& m } (r.a &&& m)

/-- ORA on the registers (43_logic_shift.md R552). -/
def Cpu.ora (r : Cpu) (m : Byte) : Cpu := Cpu.setNZ { r with a := r.a ||| m } (r.a ||| m)

/-- EOR on the registers (43_logic_shift.md R553). -/
def Cpu.eor (r : Cpu) (m : Byte) : Cpu := Cpu.setNZ { r with a := r.a ^^^ m } (r.a ^^^ m)

/-- BIT on the registers: N and V are bits 7 and 6 of the memory byte (43_logic_shift.md R554). -/
def Cpu.bit (r : Cpu) (m : Byte) : Cpu := { r with z := r.a &&& m == 0, n := m.getLsbD 7, v := m.getLsbD 6 }

/-- AND pre-indexed indirect, opcode 0x21 (43_logic_shift.md R551). -/
def execAndIndx (b1 : Byte) (s : State) : Result := .next (s.readOp Cpu.and (.mem (.indx b1)) 6)

/-- AND zero-page, opcode 0x25 (43_logic_shift.md R551). -/
def execAndZp (b1 : Byte) (s : State) : Result := .next (s.readOp Cpu.and (.mem (.zp b1)) 3)

/-- AND immediate, opcode 0x29 (43_logic_shift.md R551). -/
def execAndImm (b1 : Byte) (s : State) : Result := .next (s.readOp Cpu.and (.imm b1) 2)

/-- AND absolute, opcode 0x2D (43_logic_shift.md R551). -/
def execAndAbs (w : Word) (s : State) : Result := .next (s.readOp Cpu.and (.mem (.abs w)) 4)

/-- AND post-indexed indirect, opcode 0x31 (43_logic_shift.md R551). -/
def execAndIndy (b1 : Byte) (s : State) : Result := .next (s.readOp Cpu.and (.mem (.indy b1)) 5)

/-- AND zero-page-X, opcode 0x35 (43_logic_shift.md R551). -/
def execAndZpx (b1 : Byte) (s : State) : Result := .next (s.readOp Cpu.and (.mem (.zpx b1)) 4)

/-- AND absolute-Y, opcode 0x39 (43_logic_shift.md R551). -/
def execAndAbsy (w : Word) (s : State) : Result := .next (s.readOp Cpu.and (.mem (.absy w)) 4)

/-- AND absolute-X, opcode 0x3D (43_logic_shift.md R551). -/
def execAndAbsx (w : Word) (s : State) : Result := .next (s.readOp Cpu.and (.mem (.absx w)) 4)

/-- ORA pre-indexed indirect, opcode 0x01 (43_logic_shift.md R552). -/
def execOraIndx (b1 : Byte) (s : State) : Result := .next (s.readOp Cpu.ora (.mem (.indx b1)) 6)

/-- ORA zero-page, opcode 0x05 (43_logic_shift.md R552). -/
def execOraZp (b1 : Byte) (s : State) : Result := .next (s.readOp Cpu.ora (.mem (.zp b1)) 3)

/-- ORA immediate, opcode 0x09 (43_logic_shift.md R552). -/
def execOraImm (b1 : Byte) (s : State) : Result := .next (s.readOp Cpu.ora (.imm b1) 2)

/-- ORA absolute, opcode 0x0D (43_logic_shift.md R552). -/
def execOraAbs (w : Word) (s : State) : Result := .next (s.readOp Cpu.ora (.mem (.abs w)) 4)

/-- ORA post-indexed indirect, opcode 0x11 (43_logic_shift.md R552). -/
def execOraIndy (b1 : Byte) (s : State) : Result := .next (s.readOp Cpu.ora (.mem (.indy b1)) 5)

/-- ORA zero-page-X, opcode 0x15 (43_logic_shift.md R552). -/
def execOraZpx (b1 : Byte) (s : State) : Result := .next (s.readOp Cpu.ora (.mem (.zpx b1)) 4)

/-- ORA absolute-Y, opcode 0x19 (43_logic_shift.md R552). -/
def execOraAbsy (w : Word) (s : State) : Result := .next (s.readOp Cpu.ora (.mem (.absy w)) 4)

/-- ORA absolute-X, opcode 0x1D (43_logic_shift.md R552). -/
def execOraAbsx (w : Word) (s : State) : Result := .next (s.readOp Cpu.ora (.mem (.absx w)) 4)

/-- EOR pre-indexed indirect, opcode 0x41 (43_logic_shift.md R553). -/
def execEorIndx (b1 : Byte) (s : State) : Result := .next (s.readOp Cpu.eor (.mem (.indx b1)) 6)

/-- EOR zero-page, opcode 0x45 (43_logic_shift.md R553). -/
def execEorZp (b1 : Byte) (s : State) : Result := .next (s.readOp Cpu.eor (.mem (.zp b1)) 3)

/-- EOR immediate, opcode 0x49 (43_logic_shift.md R553). -/
def execEorImm (b1 : Byte) (s : State) : Result := .next (s.readOp Cpu.eor (.imm b1) 2)

/-- EOR absolute, opcode 0x4D (43_logic_shift.md R553). -/
def execEorAbs (w : Word) (s : State) : Result := .next (s.readOp Cpu.eor (.mem (.abs w)) 4)

/-- EOR post-indexed indirect, opcode 0x51 (43_logic_shift.md R553). -/
def execEorIndy (b1 : Byte) (s : State) : Result := .next (s.readOp Cpu.eor (.mem (.indy b1)) 5)

/-- EOR zero-page-X, opcode 0x55 (43_logic_shift.md R553). -/
def execEorZpx (b1 : Byte) (s : State) : Result := .next (s.readOp Cpu.eor (.mem (.zpx b1)) 4)

/-- EOR absolute-Y, opcode 0x59 (43_logic_shift.md R553). -/
def execEorAbsy (w : Word) (s : State) : Result := .next (s.readOp Cpu.eor (.mem (.absy w)) 4)

/-- EOR absolute-X, opcode 0x5D (43_logic_shift.md R553). -/
def execEorAbsx (w : Word) (s : State) : Result := .next (s.readOp Cpu.eor (.mem (.absx w)) 4)

/-- BIT zero-page, opcode 0x24 (43_logic_shift.md R554). -/
def execBitZp (b1 : Byte) (s : State) : Result := .next (s.readOp Cpu.bit (.mem (.zp b1)) 3)

/-- BIT absolute, opcode 0x2C (43_logic_shift.md R554). -/
def execBitAbs (w : Word) (s : State) : Result := .next (s.readOp Cpu.bit (.mem (.abs w)) 4)

/-- ASL zero-page, opcode 0x06 (43_logic_shift.md R555). -/
def execAslZp (b1 : Byte) (s : State) : Result := .next (s.modifyOp Cpu.shiftL Cpu.keep (.zp b1) 5)

/-- ASL accumulator, opcode 0x0A (43_logic_shift.md R555). -/
def execAslAcc (s : State) : Result := .next (s.impliedOp (·.modifyA Cpu.shiftL) 2)

/-- ASL absolute, opcode 0x0E (43_logic_shift.md R555). -/
def execAslAbs (w : Word) (s : State) : Result := .next (s.modifyOp Cpu.shiftL Cpu.keep (.abs w) 6)

/-- ASL zero-page-X, opcode 0x16 (43_logic_shift.md R555). -/
def execAslZpx (b1 : Byte) (s : State) : Result := .next (s.modifyOp Cpu.shiftL Cpu.keep (.zpx b1) 6)

/-- ASL absolute-X, opcode 0x1E (43_logic_shift.md R555). -/
def execAslAbsx (w : Word) (s : State) : Result := .next (s.modifyOp Cpu.shiftL Cpu.keep (.absx w) 7)

/-- LSR zero-page, opcode 0x46 (43_logic_shift.md R556). -/
def execLsrZp (b1 : Byte) (s : State) : Result := .next (s.modifyOp Cpu.shiftR Cpu.keep (.zp b1) 5)

/-- LSR accumulator, opcode 0x4A (43_logic_shift.md R556). -/
def execLsrAcc (s : State) : Result := .next (s.impliedOp (·.modifyA Cpu.shiftR) 2)

/-- LSR absolute, opcode 0x4E (43_logic_shift.md R556). -/
def execLsrAbs (w : Word) (s : State) : Result := .next (s.modifyOp Cpu.shiftR Cpu.keep (.abs w) 6)

/-- LSR zero-page-X, opcode 0x56 (43_logic_shift.md R556). -/
def execLsrZpx (b1 : Byte) (s : State) : Result := .next (s.modifyOp Cpu.shiftR Cpu.keep (.zpx b1) 6)

/-- LSR absolute-X, opcode 0x5E (43_logic_shift.md R556). -/
def execLsrAbsx (w : Word) (s : State) : Result := .next (s.modifyOp Cpu.shiftR Cpu.keep (.absx w) 7)

/-- ROL zero-page, opcode 0x26 (43_logic_shift.md R557). -/
def execRolZp (b1 : Byte) (s : State) : Result := .next (s.modifyOp Cpu.rotL Cpu.keep (.zp b1) 5)

/-- ROL accumulator, opcode 0x2A (43_logic_shift.md R557). -/
def execRolAcc (s : State) : Result := .next (s.impliedOp (·.modifyA Cpu.rotL) 2)

/-- ROL absolute, opcode 0x2E (43_logic_shift.md R557). -/
def execRolAbs (w : Word) (s : State) : Result := .next (s.modifyOp Cpu.rotL Cpu.keep (.abs w) 6)

/-- ROL zero-page-X, opcode 0x36 (43_logic_shift.md R557). -/
def execRolZpx (b1 : Byte) (s : State) : Result := .next (s.modifyOp Cpu.rotL Cpu.keep (.zpx b1) 6)

/-- ROL absolute-X, opcode 0x3E (43_logic_shift.md R557). -/
def execRolAbsx (w : Word) (s : State) : Result := .next (s.modifyOp Cpu.rotL Cpu.keep (.absx w) 7)

/-- ROR zero-page, opcode 0x66 (43_logic_shift.md R558). -/
def execRorZp (b1 : Byte) (s : State) : Result := .next (s.modifyOp Cpu.rotR Cpu.keep (.zp b1) 5)

/-- ROR accumulator, opcode 0x6A (43_logic_shift.md R558). -/
def execRorAcc (s : State) : Result := .next (s.impliedOp (·.modifyA Cpu.rotR) 2)

/-- ROR absolute, opcode 0x6E (43_logic_shift.md R558). -/
def execRorAbs (w : Word) (s : State) : Result := .next (s.modifyOp Cpu.rotR Cpu.keep (.abs w) 6)

/-- ROR zero-page-X, opcode 0x76 (43_logic_shift.md R558). -/
def execRorZpx (b1 : Byte) (s : State) : Result := .next (s.modifyOp Cpu.rotR Cpu.keep (.zpx b1) 6)

/-- ROR absolute-X, opcode 0x7E (43_logic_shift.md R558). -/
def execRorAbsx (w : Word) (s : State) : Result := .next (s.modifyOp Cpu.rotR Cpu.keep (.absx w) 7)

end Sys2Proof.Machine
end

