-- ==== Sys2Proof/Machine/System.lean ====
section
/-! DEFINITION. Stack, flag, no-operation and system instructions (45_stack_flags_system.md): what each
mnemonic does to the registers, then one meaning per opcode row with its addressing mode and base cycles. PC already stands
after the instruction (40_addressing.md R401; log 12). -/

namespace Sys2Proof.Machine

/-- PLA: pull A, then N and Z (45_stack_flags_system.md R652). -/
def State.pullA (s : State) : State :=
  let r := s.pull
  r.2.setCpu (Cpu.setNZ { r.2.cpu with a := r.1 } r.1)

/-- PLP: pull the status (45_stack_flags_system.md R653). -/
def State.pullStatus (s : State) : State :=
  let r := s.pull
  r.2.setCpu (r.2.cpu.loadStatus r.1)

/-- CLC on the registers (45_stack_flags_system.md R654). -/
def Cpu.clc (r : Cpu) : Cpu := { r with c := false }

/-- CLD on the registers (45_stack_flags_system.md R655). -/
def Cpu.cld (r : Cpu) : Cpu := { r with d := false }

/-- CLI on the registers (45_stack_flags_system.md R656). -/
def Cpu.cli (r : Cpu) : Cpu := { r with i := false }

/-- CLV on the registers (45_stack_flags_system.md R657). -/
def Cpu.clv (r : Cpu) : Cpu := { r with v := false }

/-- SEC on the registers (45_stack_flags_system.md R658). -/
def Cpu.sec (r : Cpu) : Cpu := { r with c := true }

/-- SED on the registers (45_stack_flags_system.md R659). -/
def Cpu.sed (r : Cpu) : Cpu := { r with d := true }

/-- SEI on the registers (45_stack_flags_system.md R660). -/
def Cpu.sei (r : Cpu) : Cpu := { r with i := true }

/-- PHA, opcode 0x48 (45_stack_flags_system.md R650). -/
def execPha (s : State) : Result := .next ((s.push s.cpu.a).addCycles 3)

/-- PHP, opcode 0x08 (45_stack_flags_system.md R651). -/
def execPhp (s : State) : Result := .next ((s.push (s.cpu.pushedStatus true)).addCycles 3)

/-- PLA, opcode 0x68 (45_stack_flags_system.md R652). -/
def execPla (s : State) : Result := .next (s.pullA.addCycles 4)

/-- PLP, opcode 0x28 (45_stack_flags_system.md R653). -/
def execPlp (s : State) : Result := .next (s.pullStatus.addCycles 4)

/-- CLC, opcode 0x18 (45_stack_flags_system.md R654). -/
def execClc (s : State) : Result := .next (s.impliedOp Cpu.clc 2)

/-- CLD, opcode 0xD8 (45_stack_flags_system.md R655). -/
def execCld (s : State) : Result := .next (s.impliedOp Cpu.cld 2)

/-- CLI, opcode 0x58 (45_stack_flags_system.md R656). -/
def execCli (s : State) : Result := .next (s.impliedOp Cpu.cli 2)

/-- CLV, opcode 0xB8 (45_stack_flags_system.md R657). -/
def execClv (s : State) : Result := .next (s.impliedOp Cpu.clv 2)

/-- SEC, opcode 0x38 (45_stack_flags_system.md R658). -/
def execSec (s : State) : Result := .next (s.impliedOp Cpu.sec 2)

/-- SED, opcode 0xF8 (45_stack_flags_system.md R659). -/
def execSed (s : State) : Result := .next (s.impliedOp Cpu.sed 2)

/-- SEI, opcode 0x78 (45_stack_flags_system.md R660). -/
def execSei (s : State) : Result := .next (s.impliedOp Cpu.sei 2)

/-- NOP, opcode 0xEA (45_stack_flags_system.md R661). -/
def execNop (s : State) : Result := .next (s.impliedOp id 2)

/-- BRK, opcode 0x00 (45_stack_flags_system.md R662): `Enter(0xFFFE, opaddr + 2, 1)`; PC is opaddr + 1. -/
def execBrk (s : State) : Result := .next ((s.enter 0xFFFE (s.cpu.pc + 1) true).addCycles 7)

/-- RTI, opcode 0x40 (45_stack_flags_system.md R663). -/
def execRti (s : State) : Result := .next (s.leave.addCycles 6)

end Sys2Proof.Machine
end

