-- ==== Sys2Proof/Machine/Unofficial.lean ====
section
/-! DEFINITION. Unofficial instructions (46_unofficial.md): what each
mnemonic does to the registers, then one meaning per opcode row with its addressing mode and base cycles. PC already stands
after the instruction (40_addressing.md R401; log 12). -/

namespace Sys2Proof.Machine

/-- ALR on the registers (46_unofficial.md R701). -/
def Cpu.alr (r : Cpu) (m : Byte) : Cpu :=
  let q := r.shiftR (r.a &&& m)
  { q.2 with a := q.1 }

/-- ANC on the registers (46_unofficial.md R702). -/
def Cpu.anc (r : Cpu) (m : Byte) : Cpu :=
  let t := r.a &&& m
  Cpu.setNZ { r with a := t, c := t.msb } t

/-- ARR on the registers: C and V come from bits 6 and 5 of the result (46_unofficial.md R703). -/
def Cpu.arr (r : Cpu) (m : Byte) : Cpu :=
  let res := ((r.a &&& m) >>> 1) ||| flagBit r.c 7
  Cpu.setNZ { r with a := res, c := res.getLsbD 6, v := res.getLsbD 6 ^^ res.getLsbD 5 } res

/-- AXS on the registers (46_unofficial.md R704). -/
def Cpu.axs (r : Cpu) (m : Byte) : Cpu :=
  let t := r.a &&& r.x
  Cpu.setNZ { r with x := t - m, c := decide (m ≤ t) } (t - m)

/-- LAX on the registers (46_unofficial.md R705). -/
def Cpu.lax (r : Cpu) (v : Byte) : Cpu := Cpu.setNZ { r with a := v, x := v } v

/-- The byte DCP writes; it sets no flag itself (46_unofficial.md R707). -/
def Cpu.decOnly (r : Cpu) (v : Byte) : Byte × Cpu := (v - 1, r)

/-- The byte ISC writes; it sets no flag itself (46_unofficial.md R708). -/
def Cpu.incOnly (r : Cpu) (v : Byte) : Byte × Cpu := (v + 1, r)

/-- ALR immediate, opcode 0x4B (46_unofficial.md R701). -/
def execAlrImm (b1 : Byte) (s : State) : Result := .next (s.readOp Cpu.alr (.imm b1) 2)

/-- ANC immediate, opcode 0x0B (46_unofficial.md R702). -/
def execAncImm0B (b1 : Byte) (s : State) : Result := .next (s.readOp Cpu.anc (.imm b1) 2)

/-- ANC immediate, opcode 0x2B (46_unofficial.md R702). -/
def execAncImm2B (b1 : Byte) (s : State) : Result := .next (s.readOp Cpu.anc (.imm b1) 2)

/-- ARR immediate, opcode 0x6B (46_unofficial.md R703). -/
def execArrImm (b1 : Byte) (s : State) : Result := .next (s.readOp Cpu.arr (.imm b1) 2)

/-- AXS immediate, opcode 0xCB (46_unofficial.md R704). -/
def execAxsImm (b1 : Byte) (s : State) : Result := .next (s.readOp Cpu.axs (.imm b1) 2)

/-- LAX pre-indexed indirect, opcode 0xA3 (46_unofficial.md R705). -/
def execLaxIndx (b1 : Byte) (s : State) : Result := .next (s.readOp Cpu.lax (.mem (.indx b1)) 6)

/-- LAX zero-page, opcode 0xA7 (46_unofficial.md R705). -/
def execLaxZp (b1 : Byte) (s : State) : Result := .next (s.readOp Cpu.lax (.mem (.zp b1)) 3)

/-- LAX absolute, opcode 0xAF (46_unofficial.md R705). -/
def execLaxAbs (w : Word) (s : State) : Result := .next (s.readOp Cpu.lax (.mem (.abs w)) 4)

/-- LAX post-indexed indirect, opcode 0xB3 (46_unofficial.md R705). -/
def execLaxIndy (b1 : Byte) (s : State) : Result := .next (s.readOp Cpu.lax (.mem (.indy b1)) 5)

/-- LAX zero-page-Y, opcode 0xB7 (46_unofficial.md R705). -/
def execLaxZpy (b1 : Byte) (s : State) : Result := .next (s.readOp Cpu.lax (.mem (.zpy b1)) 4)

/-- LAX absolute-Y, opcode 0xBF (46_unofficial.md R705). -/
def execLaxAbsy (w : Word) (s : State) : Result := .next (s.readOp Cpu.lax (.mem (.absy w)) 4)

/-- SAX pre-indexed indirect, opcode 0x83 (46_unofficial.md R706). -/
def execSaxIndx (b1 : Byte) (s : State) : Result := .next (s.storeOp (fun r => r.a &&& r.x) (.indx b1) 6)

/-- SAX zero-page, opcode 0x87 (46_unofficial.md R706). -/
def execSaxZp (b1 : Byte) (s : State) : Result := .next (s.storeOp (fun r => r.a &&& r.x) (.zp b1) 3)

/-- SAX absolute, opcode 0x8F (46_unofficial.md R706). -/
def execSaxAbs (w : Word) (s : State) : Result := .next (s.storeOp (fun r => r.a &&& r.x) (.abs w) 4)

/-- SAX zero-page-Y, opcode 0x97 (46_unofficial.md R706). -/
def execSaxZpy (b1 : Byte) (s : State) : Result := .next (s.storeOp (fun r => r.a &&& r.x) (.zpy b1) 4)

/-- DCP pre-indexed indirect, opcode 0xC3 (46_unofficial.md R707). -/
def execDcpIndx (b1 : Byte) (s : State) : Result := .next (s.modifyOp Cpu.decOnly Cpu.cmp (.indx b1) 8)

/-- DCP zero-page, opcode 0xC7 (46_unofficial.md R707). -/
def execDcpZp (b1 : Byte) (s : State) : Result := .next (s.modifyOp Cpu.decOnly Cpu.cmp (.zp b1) 5)

/-- DCP absolute, opcode 0xCF (46_unofficial.md R707). -/
def execDcpAbs (w : Word) (s : State) : Result := .next (s.modifyOp Cpu.decOnly Cpu.cmp (.abs w) 6)

/-- DCP post-indexed indirect, opcode 0xD3 (46_unofficial.md R707). -/
def execDcpIndy (b1 : Byte) (s : State) : Result := .next (s.modifyOp Cpu.decOnly Cpu.cmp (.indy b1) 8)

/-- DCP zero-page-X, opcode 0xD7 (46_unofficial.md R707). -/
def execDcpZpx (b1 : Byte) (s : State) : Result := .next (s.modifyOp Cpu.decOnly Cpu.cmp (.zpx b1) 6)

/-- DCP absolute-Y, opcode 0xDB (46_unofficial.md R707). -/
def execDcpAbsy (w : Word) (s : State) : Result := .next (s.modifyOp Cpu.decOnly Cpu.cmp (.absy w) 7)

/-- DCP absolute-X, opcode 0xDF (46_unofficial.md R707). -/
def execDcpAbsx (w : Word) (s : State) : Result := .next (s.modifyOp Cpu.decOnly Cpu.cmp (.absx w) 7)

/-- ISC pre-indexed indirect, opcode 0xE3 (46_unofficial.md R708). -/
def execIscIndx (b1 : Byte) (s : State) : Result := .next (s.modifyOp Cpu.incOnly Cpu.sbc (.indx b1) 8)

/-- ISC zero-page, opcode 0xE7 (46_unofficial.md R708). -/
def execIscZp (b1 : Byte) (s : State) : Result := .next (s.modifyOp Cpu.incOnly Cpu.sbc (.zp b1) 5)

/-- ISC absolute, opcode 0xEF (46_unofficial.md R708). -/
def execIscAbs (w : Word) (s : State) : Result := .next (s.modifyOp Cpu.incOnly Cpu.sbc (.abs w) 6)

/-- ISC post-indexed indirect, opcode 0xF3 (46_unofficial.md R708). -/
def execIscIndy (b1 : Byte) (s : State) : Result := .next (s.modifyOp Cpu.incOnly Cpu.sbc (.indy b1) 8)

/-- ISC zero-page-X, opcode 0xF7 (46_unofficial.md R708). -/
def execIscZpx (b1 : Byte) (s : State) : Result := .next (s.modifyOp Cpu.incOnly Cpu.sbc (.zpx b1) 6)

/-- ISC absolute-Y, opcode 0xFB (46_unofficial.md R708). -/
def execIscAbsy (w : Word) (s : State) : Result := .next (s.modifyOp Cpu.incOnly Cpu.sbc (.absy w) 7)

/-- ISC absolute-X, opcode 0xFF (46_unofficial.md R708). -/
def execIscAbsx (w : Word) (s : State) : Result := .next (s.modifyOp Cpu.incOnly Cpu.sbc (.absx w) 7)

/-- RLA pre-indexed indirect, opcode 0x23 (46_unofficial.md R709). -/
def execRlaIndx (b1 : Byte) (s : State) : Result := .next (s.modifyOp Cpu.rotL Cpu.and (.indx b1) 8)

/-- RLA zero-page, opcode 0x27 (46_unofficial.md R709). -/
def execRlaZp (b1 : Byte) (s : State) : Result := .next (s.modifyOp Cpu.rotL Cpu.and (.zp b1) 5)

/-- RLA absolute, opcode 0x2F (46_unofficial.md R709). -/
def execRlaAbs (w : Word) (s : State) : Result := .next (s.modifyOp Cpu.rotL Cpu.and (.abs w) 6)

/-- RLA post-indexed indirect, opcode 0x33 (46_unofficial.md R709). -/
def execRlaIndy (b1 : Byte) (s : State) : Result := .next (s.modifyOp Cpu.rotL Cpu.and (.indy b1) 8)

/-- RLA zero-page-X, opcode 0x37 (46_unofficial.md R709). -/
def execRlaZpx (b1 : Byte) (s : State) : Result := .next (s.modifyOp Cpu.rotL Cpu.and (.zpx b1) 6)

/-- RLA absolute-Y, opcode 0x3B (46_unofficial.md R709). -/
def execRlaAbsy (w : Word) (s : State) : Result := .next (s.modifyOp Cpu.rotL Cpu.and (.absy w) 7)

/-- RLA absolute-X, opcode 0x3F (46_unofficial.md R709). -/
def execRlaAbsx (w : Word) (s : State) : Result := .next (s.modifyOp Cpu.rotL Cpu.and (.absx w) 7)

/-- RRA pre-indexed indirect, opcode 0x63 (46_unofficial.md R710). -/
def execRraIndx (b1 : Byte) (s : State) : Result := .next (s.modifyOp Cpu.rotR Cpu.addCore (.indx b1) 8)

/-- RRA zero-page, opcode 0x67 (46_unofficial.md R710). -/
def execRraZp (b1 : Byte) (s : State) : Result := .next (s.modifyOp Cpu.rotR Cpu.addCore (.zp b1) 5)

/-- RRA absolute, opcode 0x6F (46_unofficial.md R710). -/
def execRraAbs (w : Word) (s : State) : Result := .next (s.modifyOp Cpu.rotR Cpu.addCore (.abs w) 6)

/-- RRA post-indexed indirect, opcode 0x73 (46_unofficial.md R710). -/
def execRraIndy (b1 : Byte) (s : State) : Result := .next (s.modifyOp Cpu.rotR Cpu.addCore (.indy b1) 8)

/-- RRA zero-page-X, opcode 0x77 (46_unofficial.md R710). -/
def execRraZpx (b1 : Byte) (s : State) : Result := .next (s.modifyOp Cpu.rotR Cpu.addCore (.zpx b1) 6)

/-- RRA absolute-Y, opcode 0x7B (46_unofficial.md R710). -/
def execRraAbsy (w : Word) (s : State) : Result := .next (s.modifyOp Cpu.rotR Cpu.addCore (.absy w) 7)

/-- RRA absolute-X, opcode 0x7F (46_unofficial.md R710). -/
def execRraAbsx (w : Word) (s : State) : Result := .next (s.modifyOp Cpu.rotR Cpu.addCore (.absx w) 7)

/-- SLO pre-indexed indirect, opcode 0x03 (46_unofficial.md R711). -/
def execSloIndx (b1 : Byte) (s : State) : Result := .next (s.modifyOp Cpu.shiftL Cpu.ora (.indx b1) 8)

/-- SLO zero-page, opcode 0x07 (46_unofficial.md R711). -/
def execSloZp (b1 : Byte) (s : State) : Result := .next (s.modifyOp Cpu.shiftL Cpu.ora (.zp b1) 5)

/-- SLO absolute, opcode 0x0F (46_unofficial.md R711). -/
def execSloAbs (w : Word) (s : State) : Result := .next (s.modifyOp Cpu.shiftL Cpu.ora (.abs w) 6)

/-- SLO post-indexed indirect, opcode 0x13 (46_unofficial.md R711). -/
def execSloIndy (b1 : Byte) (s : State) : Result := .next (s.modifyOp Cpu.shiftL Cpu.ora (.indy b1) 8)

/-- SLO zero-page-X, opcode 0x17 (46_unofficial.md R711). -/
def execSloZpx (b1 : Byte) (s : State) : Result := .next (s.modifyOp Cpu.shiftL Cpu.ora (.zpx b1) 6)

/-- SLO absolute-Y, opcode 0x1B (46_unofficial.md R711). -/
def execSloAbsy (w : Word) (s : State) : Result := .next (s.modifyOp Cpu.shiftL Cpu.ora (.absy w) 7)

/-- SLO absolute-X, opcode 0x1F (46_unofficial.md R711). -/
def execSloAbsx (w : Word) (s : State) : Result := .next (s.modifyOp Cpu.shiftL Cpu.ora (.absx w) 7)

/-- SRE pre-indexed indirect, opcode 0x43 (46_unofficial.md R712). -/
def execSreIndx (b1 : Byte) (s : State) : Result := .next (s.modifyOp Cpu.shiftR Cpu.eor (.indx b1) 8)

/-- SRE zero-page, opcode 0x47 (46_unofficial.md R712). -/
def execSreZp (b1 : Byte) (s : State) : Result := .next (s.modifyOp Cpu.shiftR Cpu.eor (.zp b1) 5)

/-- SRE absolute, opcode 0x4F (46_unofficial.md R712). -/
def execSreAbs (w : Word) (s : State) : Result := .next (s.modifyOp Cpu.shiftR Cpu.eor (.abs w) 6)

/-- SRE post-indexed indirect, opcode 0x53 (46_unofficial.md R712). -/
def execSreIndy (b1 : Byte) (s : State) : Result := .next (s.modifyOp Cpu.shiftR Cpu.eor (.indy b1) 8)

/-- SRE zero-page-X, opcode 0x57 (46_unofficial.md R712). -/
def execSreZpx (b1 : Byte) (s : State) : Result := .next (s.modifyOp Cpu.shiftR Cpu.eor (.zpx b1) 6)

/-- SRE absolute-Y, opcode 0x5B (46_unofficial.md R712). -/
def execSreAbsy (w : Word) (s : State) : Result := .next (s.modifyOp Cpu.shiftR Cpu.eor (.absy w) 7)

/-- SRE absolute-X, opcode 0x5F (46_unofficial.md R712). -/
def execSreAbsx (w : Word) (s : State) : Result := .next (s.modifyOp Cpu.shiftR Cpu.eor (.absx w) 7)

/-- SKB immediate, opcode 0x80 (46_unofficial.md R713). -/
def execSkbImm80 (_b1 : Byte) (s : State) : Result := .next (s.impliedOp id 2)

/-- SKB immediate, opcode 0x82 (46_unofficial.md R713). -/
def execSkbImm82 (_b1 : Byte) (s : State) : Result := .next (s.impliedOp id 2)

/-- SKB immediate, opcode 0x89 (46_unofficial.md R713). -/
def execSkbImm89 (_b1 : Byte) (s : State) : Result := .next (s.impliedOp id 2)

/-- SKB immediate, opcode 0xC2 (46_unofficial.md R713). -/
def execSkbImmC2 (_b1 : Byte) (s : State) : Result := .next (s.impliedOp id 2)

/-- SKB immediate, opcode 0xE2 (46_unofficial.md R713). -/
def execSkbImmE2 (_b1 : Byte) (s : State) : Result := .next (s.impliedOp id 2)

/-- IGN zero-page, opcode 0x04 (46_unofficial.md R714). -/
def execIgnZp04 (b1 : Byte) (s : State) : Result := .next (s.readOp Cpu.keep (.mem (.zp b1)) 3)

/-- IGN absolute, opcode 0x0C (46_unofficial.md R714). -/
def execIgnAbs (w : Word) (s : State) : Result := .next (s.readOp Cpu.keep (.mem (.abs w)) 4)

/-- IGN zero-page-X, opcode 0x14 (46_unofficial.md R714). -/
def execIgnZpx14 (b1 : Byte) (s : State) : Result := .next (s.readOp Cpu.keep (.mem (.zpx b1)) 4)

/-- IGN absolute-X, opcode 0x1C (46_unofficial.md R714). -/
def execIgnAbsx1C (w : Word) (s : State) : Result := .next (s.readOp Cpu.keep (.mem (.absx w)) 4)

/-- IGN zero-page-X, opcode 0x34 (46_unofficial.md R714). -/
def execIgnZpx34 (b1 : Byte) (s : State) : Result := .next (s.readOp Cpu.keep (.mem (.zpx b1)) 4)

/-- IGN absolute-X, opcode 0x3C (46_unofficial.md R714). -/
def execIgnAbsx3C (w : Word) (s : State) : Result := .next (s.readOp Cpu.keep (.mem (.absx w)) 4)

/-- IGN zero-page, opcode 0x44 (46_unofficial.md R714). -/
def execIgnZp44 (b1 : Byte) (s : State) : Result := .next (s.readOp Cpu.keep (.mem (.zp b1)) 3)

/-- IGN zero-page-X, opcode 0x54 (46_unofficial.md R714). -/
def execIgnZpx54 (b1 : Byte) (s : State) : Result := .next (s.readOp Cpu.keep (.mem (.zpx b1)) 4)

/-- IGN absolute-X, opcode 0x5C (46_unofficial.md R714). -/
def execIgnAbsx5C (w : Word) (s : State) : Result := .next (s.readOp Cpu.keep (.mem (.absx w)) 4)

/-- IGN zero-page, opcode 0x64 (46_unofficial.md R714). -/
def execIgnZp64 (b1 : Byte) (s : State) : Result := .next (s.readOp Cpu.keep (.mem (.zp b1)) 3)

/-- IGN zero-page-X, opcode 0x74 (46_unofficial.md R714). -/
def execIgnZpx74 (b1 : Byte) (s : State) : Result := .next (s.readOp Cpu.keep (.mem (.zpx b1)) 4)

/-- IGN absolute-X, opcode 0x7C (46_unofficial.md R714). -/
def execIgnAbsx7C (w : Word) (s : State) : Result := .next (s.readOp Cpu.keep (.mem (.absx w)) 4)

/-- IGN zero-page-X, opcode 0xD4 (46_unofficial.md R714). -/
def execIgnZpxD4 (b1 : Byte) (s : State) : Result := .next (s.readOp Cpu.keep (.mem (.zpx b1)) 4)

/-- IGN absolute-X, opcode 0xDC (46_unofficial.md R714). -/
def execIgnAbsxDC (w : Word) (s : State) : Result := .next (s.readOp Cpu.keep (.mem (.absx w)) 4)

/-- IGN zero-page-X, opcode 0xF4 (46_unofficial.md R714). -/
def execIgnZpxF4 (b1 : Byte) (s : State) : Result := .next (s.readOp Cpu.keep (.mem (.zpx b1)) 4)

/-- IGN absolute-X, opcode 0xFC (46_unofficial.md R714). -/
def execIgnAbsxFC (w : Word) (s : State) : Result := .next (s.readOp Cpu.keep (.mem (.absx w)) 4)

end Sys2Proof.Machine
end

