-- ==== Sys2Proof/Machine/Dispatch.lean ====
section
/-! DEFINITION. One arm per constructor of `Instr`: the call of its meaning. -/

namespace Sys2Proof.Machine

def exec (i : Instr) (s : State) : Host.Outcome State Fault Refusal :=
  match i with
  | .brk => Sys2Proof.Machine.execBrk s
  | .oraIndx b1 => Sys2Proof.Machine.execOraIndx b1 s
  | .sloIndx b1 => Sys2Proof.Machine.execSloIndx b1 s
  | .ignZp04 b1 => Sys2Proof.Machine.execIgnZp04 b1 s
  | .oraZp b1 => Sys2Proof.Machine.execOraZp b1 s
  | .aslZp b1 => Sys2Proof.Machine.execAslZp b1 s
  | .sloZp b1 => Sys2Proof.Machine.execSloZp b1 s
  | .php => Sys2Proof.Machine.execPhp s
  | .oraImm b1 => Sys2Proof.Machine.execOraImm b1 s
  | .aslAcc => Sys2Proof.Machine.execAslAcc s
  | .ancImm0B b1 => Sys2Proof.Machine.execAncImm0B b1 s
  | .ignAbs w => Sys2Proof.Machine.execIgnAbs w s
  | .oraAbs w => Sys2Proof.Machine.execOraAbs w s
  | .aslAbs w => Sys2Proof.Machine.execAslAbs w s
  | .sloAbs w => Sys2Proof.Machine.execSloAbs w s
  | .bpl b1 => Sys2Proof.Machine.execBpl b1 s
  | .oraIndy b1 => Sys2Proof.Machine.execOraIndy b1 s
  | .sloIndy b1 => Sys2Proof.Machine.execSloIndy b1 s
  | .ignZpx14 b1 => Sys2Proof.Machine.execIgnZpx14 b1 s
  | .oraZpx b1 => Sys2Proof.Machine.execOraZpx b1 s
  | .aslZpx b1 => Sys2Proof.Machine.execAslZpx b1 s
  | .sloZpx b1 => Sys2Proof.Machine.execSloZpx b1 s
  | .clc => Sys2Proof.Machine.execClc s
  | .oraAbsy w => Sys2Proof.Machine.execOraAbsy w s
  | .sloAbsy w => Sys2Proof.Machine.execSloAbsy w s
  | .ignAbsx1C w => Sys2Proof.Machine.execIgnAbsx1C w s
  | .oraAbsx w => Sys2Proof.Machine.execOraAbsx w s
  | .aslAbsx w => Sys2Proof.Machine.execAslAbsx w s
  | .sloAbsx w => Sys2Proof.Machine.execSloAbsx w s
  | .jsrAbs w => Sys2Proof.Machine.execJsrAbs w s
  | .andIndx b1 => Sys2Proof.Machine.execAndIndx b1 s
  | .rlaIndx b1 => Sys2Proof.Machine.execRlaIndx b1 s
  | .bitZp b1 => Sys2Proof.Machine.execBitZp b1 s
  | .andZp b1 => Sys2Proof.Machine.execAndZp b1 s
  | .rolZp b1 => Sys2Proof.Machine.execRolZp b1 s
  | .rlaZp b1 => Sys2Proof.Machine.execRlaZp b1 s
  | .plp => Sys2Proof.Machine.execPlp s
  | .andImm b1 => Sys2Proof.Machine.execAndImm b1 s
  | .rolAcc => Sys2Proof.Machine.execRolAcc s
  | .ancImm2B b1 => Sys2Proof.Machine.execAncImm2B b1 s
  | .bitAbs w => Sys2Proof.Machine.execBitAbs w s
  | .andAbs w => Sys2Proof.Machine.execAndAbs w s
  | .rolAbs w => Sys2Proof.Machine.execRolAbs w s
  | .rlaAbs w => Sys2Proof.Machine.execRlaAbs w s
  | .bmi b1 => Sys2Proof.Machine.execBmi b1 s
  | .andIndy b1 => Sys2Proof.Machine.execAndIndy b1 s
  | .rlaIndy b1 => Sys2Proof.Machine.execRlaIndy b1 s
  | .ignZpx34 b1 => Sys2Proof.Machine.execIgnZpx34 b1 s
  | .andZpx b1 => Sys2Proof.Machine.execAndZpx b1 s
  | .rolZpx b1 => Sys2Proof.Machine.execRolZpx b1 s
  | .rlaZpx b1 => Sys2Proof.Machine.execRlaZpx b1 s
  | .sec => Sys2Proof.Machine.execSec s
  | .andAbsy w => Sys2Proof.Machine.execAndAbsy w s
  | .rlaAbsy w => Sys2Proof.Machine.execRlaAbsy w s
  | .ignAbsx3C w => Sys2Proof.Machine.execIgnAbsx3C w s
  | .andAbsx w => Sys2Proof.Machine.execAndAbsx w s
  | .rolAbsx w => Sys2Proof.Machine.execRolAbsx w s
  | .rlaAbsx w => Sys2Proof.Machine.execRlaAbsx w s
  | .rti => Sys2Proof.Machine.execRti s
  | .eorIndx b1 => Sys2Proof.Machine.execEorIndx b1 s
  | .sreIndx b1 => Sys2Proof.Machine.execSreIndx b1 s
  | .ignZp44 b1 => Sys2Proof.Machine.execIgnZp44 b1 s
  | .eorZp b1 => Sys2Proof.Machine.execEorZp b1 s
  | .lsrZp b1 => Sys2Proof.Machine.execLsrZp b1 s
  | .sreZp b1 => Sys2Proof.Machine.execSreZp b1 s
  | .pha => Sys2Proof.Machine.execPha s
  | .eorImm b1 => Sys2Proof.Machine.execEorImm b1 s
  | .lsrAcc => Sys2Proof.Machine.execLsrAcc s
  | .alrImm b1 => Sys2Proof.Machine.execAlrImm b1 s
  | .jmpAbs w => Sys2Proof.Machine.execJmpAbs w s
  | .eorAbs w => Sys2Proof.Machine.execEorAbs w s
  | .lsrAbs w => Sys2Proof.Machine.execLsrAbs w s
  | .sreAbs w => Sys2Proof.Machine.execSreAbs w s
  | .bvc b1 => Sys2Proof.Machine.execBvc b1 s
  | .eorIndy b1 => Sys2Proof.Machine.execEorIndy b1 s
  | .sreIndy b1 => Sys2Proof.Machine.execSreIndy b1 s
  | .ignZpx54 b1 => Sys2Proof.Machine.execIgnZpx54 b1 s
  | .eorZpx b1 => Sys2Proof.Machine.execEorZpx b1 s
  | .lsrZpx b1 => Sys2Proof.Machine.execLsrZpx b1 s
  | .sreZpx b1 => Sys2Proof.Machine.execSreZpx b1 s
  | .cli => Sys2Proof.Machine.execCli s
  | .eorAbsy w => Sys2Proof.Machine.execEorAbsy w s
  | .sreAbsy w => Sys2Proof.Machine.execSreAbsy w s
  | .ignAbsx5C w => Sys2Proof.Machine.execIgnAbsx5C w s
  | .eorAbsx w => Sys2Proof.Machine.execEorAbsx w s
  | .lsrAbsx w => Sys2Proof.Machine.execLsrAbsx w s
  | .sreAbsx w => Sys2Proof.Machine.execSreAbsx w s
  | .rts => Sys2Proof.Machine.execRts s
  | .adcIndx b1 => Sys2Proof.Machine.execAdcIndx b1 s
  | .rraIndx b1 => Sys2Proof.Machine.execRraIndx b1 s
  | .ignZp64 b1 => Sys2Proof.Machine.execIgnZp64 b1 s
  | .adcZp b1 => Sys2Proof.Machine.execAdcZp b1 s
  | .rorZp b1 => Sys2Proof.Machine.execRorZp b1 s
  | .rraZp b1 => Sys2Proof.Machine.execRraZp b1 s
  | .pla => Sys2Proof.Machine.execPla s
  | .adcImm b1 => Sys2Proof.Machine.execAdcImm b1 s
  | .rorAcc => Sys2Proof.Machine.execRorAcc s
  | .arrImm b1 => Sys2Proof.Machine.execArrImm b1 s
  | .jmpInd w => Sys2Proof.Machine.execJmpInd w s
  | .adcAbs w => Sys2Proof.Machine.execAdcAbs w s
  | .rorAbs w => Sys2Proof.Machine.execRorAbs w s
  | .rraAbs w => Sys2Proof.Machine.execRraAbs w s
  | .bvs b1 => Sys2Proof.Machine.execBvs b1 s
  | .adcIndy b1 => Sys2Proof.Machine.execAdcIndy b1 s
  | .rraIndy b1 => Sys2Proof.Machine.execRraIndy b1 s
  | .ignZpx74 b1 => Sys2Proof.Machine.execIgnZpx74 b1 s
  | .adcZpx b1 => Sys2Proof.Machine.execAdcZpx b1 s
  | .rorZpx b1 => Sys2Proof.Machine.execRorZpx b1 s
  | .rraZpx b1 => Sys2Proof.Machine.execRraZpx b1 s
  | .sei => Sys2Proof.Machine.execSei s
  | .adcAbsy w => Sys2Proof.Machine.execAdcAbsy w s
  | .rraAbsy w => Sys2Proof.Machine.execRraAbsy w s
  | .ignAbsx7C w => Sys2Proof.Machine.execIgnAbsx7C w s
  | .adcAbsx w => Sys2Proof.Machine.execAdcAbsx w s
  | .rorAbsx w => Sys2Proof.Machine.execRorAbsx w s
  | .rraAbsx w => Sys2Proof.Machine.execRraAbsx w s
  | .skbImm80 b1 => Sys2Proof.Machine.execSkbImm80 b1 s
  | .staIndx b1 => Sys2Proof.Machine.execStaIndx b1 s
  | .skbImm82 b1 => Sys2Proof.Machine.execSkbImm82 b1 s
  | .saxIndx b1 => Sys2Proof.Machine.execSaxIndx b1 s
  | .styZp b1 => Sys2Proof.Machine.execStyZp b1 s
  | .staZp b1 => Sys2Proof.Machine.execStaZp b1 s
  | .stxZp b1 => Sys2Proof.Machine.execStxZp b1 s
  | .saxZp b1 => Sys2Proof.Machine.execSaxZp b1 s
  | .dey => Sys2Proof.Machine.execDey s
  | .skbImm89 b1 => Sys2Proof.Machine.execSkbImm89 b1 s
  | .txa => Sys2Proof.Machine.execTxa s
  | .styAbs w => Sys2Proof.Machine.execStyAbs w s
  | .staAbs w => Sys2Proof.Machine.execStaAbs w s
  | .stxAbs w => Sys2Proof.Machine.execStxAbs w s
  | .saxAbs w => Sys2Proof.Machine.execSaxAbs w s
  | .bcc b1 => Sys2Proof.Machine.execBcc b1 s
  | .staIndy b1 => Sys2Proof.Machine.execStaIndy b1 s
  | .styZpx b1 => Sys2Proof.Machine.execStyZpx b1 s
  | .staZpx b1 => Sys2Proof.Machine.execStaZpx b1 s
  | .stxZpy b1 => Sys2Proof.Machine.execStxZpy b1 s
  | .saxZpy b1 => Sys2Proof.Machine.execSaxZpy b1 s
  | .tya => Sys2Proof.Machine.execTya s
  | .staAbsy w => Sys2Proof.Machine.execStaAbsy w s
  | .txs => Sys2Proof.Machine.execTxs s
  | .staAbsx w => Sys2Proof.Machine.execStaAbsx w s
  | .ldyImm b1 => Sys2Proof.Machine.execLdyImm b1 s
  | .ldaIndx b1 => Sys2Proof.Machine.execLdaIndx b1 s
  | .ldxImm b1 => Sys2Proof.Machine.execLdxImm b1 s
  | .laxIndx b1 => Sys2Proof.Machine.execLaxIndx b1 s
  | .ldyZp b1 => Sys2Proof.Machine.execLdyZp b1 s
  | .ldaZp b1 => Sys2Proof.Machine.execLdaZp b1 s
  | .ldxZp b1 => Sys2Proof.Machine.execLdxZp b1 s
  | .laxZp b1 => Sys2Proof.Machine.execLaxZp b1 s
  | .tay => Sys2Proof.Machine.execTay s
  | .ldaImm b1 => Sys2Proof.Machine.execLdaImm b1 s
  | .tax => Sys2Proof.Machine.execTax s
  | .ldyAbs w => Sys2Proof.Machine.execLdyAbs w s
  | .ldaAbs w => Sys2Proof.Machine.execLdaAbs w s
  | .ldxAbs w => Sys2Proof.Machine.execLdxAbs w s
  | .laxAbs w => Sys2Proof.Machine.execLaxAbs w s
  | .bcs b1 => Sys2Proof.Machine.execBcs b1 s
  | .ldaIndy b1 => Sys2Proof.Machine.execLdaIndy b1 s
  | .laxIndy b1 => Sys2Proof.Machine.execLaxIndy b1 s
  | .ldyZpx b1 => Sys2Proof.Machine.execLdyZpx b1 s
  | .ldaZpx b1 => Sys2Proof.Machine.execLdaZpx b1 s
  | .ldxZpy b1 => Sys2Proof.Machine.execLdxZpy b1 s
  | .laxZpy b1 => Sys2Proof.Machine.execLaxZpy b1 s
  | .clv => Sys2Proof.Machine.execClv s
  | .ldaAbsy w => Sys2Proof.Machine.execLdaAbsy w s
  | .tsx => Sys2Proof.Machine.execTsx s
  | .ldyAbsx w => Sys2Proof.Machine.execLdyAbsx w s
  | .ldaAbsx w => Sys2Proof.Machine.execLdaAbsx w s
  | .ldxAbsy w => Sys2Proof.Machine.execLdxAbsy w s
  | .laxAbsy w => Sys2Proof.Machine.execLaxAbsy w s
  | .cpyImm b1 => Sys2Proof.Machine.execCpyImm b1 s
  | .cmpIndx b1 => Sys2Proof.Machine.execCmpIndx b1 s
  | .skbImmC2 b1 => Sys2Proof.Machine.execSkbImmC2 b1 s
  | .dcpIndx b1 => Sys2Proof.Machine.execDcpIndx b1 s
  | .cpyZp b1 => Sys2Proof.Machine.execCpyZp b1 s
  | .cmpZp b1 => Sys2Proof.Machine.execCmpZp b1 s
  | .decZp b1 => Sys2Proof.Machine.execDecZp b1 s
  | .dcpZp b1 => Sys2Proof.Machine.execDcpZp b1 s
  | .iny => Sys2Proof.Machine.execIny s
  | .cmpImm b1 => Sys2Proof.Machine.execCmpImm b1 s
  | .dex => Sys2Proof.Machine.execDex s
  | .axsImm b1 => Sys2Proof.Machine.execAxsImm b1 s
  | .cpyAbs w => Sys2Proof.Machine.execCpyAbs w s
  | .cmpAbs w => Sys2Proof.Machine.execCmpAbs w s
  | .decAbs w => Sys2Proof.Machine.execDecAbs w s
  | .dcpAbs w => Sys2Proof.Machine.execDcpAbs w s
  | .bne b1 => Sys2Proof.Machine.execBne b1 s
  | .cmpIndy b1 => Sys2Proof.Machine.execCmpIndy b1 s
  | .dcpIndy b1 => Sys2Proof.Machine.execDcpIndy b1 s
  | .ignZpxD4 b1 => Sys2Proof.Machine.execIgnZpxD4 b1 s
  | .cmpZpx b1 => Sys2Proof.Machine.execCmpZpx b1 s
  | .decZpx b1 => Sys2Proof.Machine.execDecZpx b1 s
  | .dcpZpx b1 => Sys2Proof.Machine.execDcpZpx b1 s
  | .cld => Sys2Proof.Machine.execCld s
  | .cmpAbsy w => Sys2Proof.Machine.execCmpAbsy w s
  | .dcpAbsy w => Sys2Proof.Machine.execDcpAbsy w s
  | .ignAbsxDC w => Sys2Proof.Machine.execIgnAbsxDC w s
  | .cmpAbsx w => Sys2Proof.Machine.execCmpAbsx w s
  | .decAbsx w => Sys2Proof.Machine.execDecAbsx w s
  | .dcpAbsx w => Sys2Proof.Machine.execDcpAbsx w s
  | .cpxImm b1 => Sys2Proof.Machine.execCpxImm b1 s
  | .sbcIndx b1 => Sys2Proof.Machine.execSbcIndx b1 s
  | .skbImmE2 b1 => Sys2Proof.Machine.execSkbImmE2 b1 s
  | .iscIndx b1 => Sys2Proof.Machine.execIscIndx b1 s
  | .cpxZp b1 => Sys2Proof.Machine.execCpxZp b1 s
  | .sbcZp b1 => Sys2Proof.Machine.execSbcZp b1 s
  | .incZp b1 => Sys2Proof.Machine.execIncZp b1 s
  | .iscZp b1 => Sys2Proof.Machine.execIscZp b1 s
  | .inx => Sys2Proof.Machine.execInx s
  | .sbcImm b1 => Sys2Proof.Machine.execSbcImm b1 s
  | .nop => Sys2Proof.Machine.execNop s
  | .cpxAbs w => Sys2Proof.Machine.execCpxAbs w s
  | .sbcAbs w => Sys2Proof.Machine.execSbcAbs w s
  | .incAbs w => Sys2Proof.Machine.execIncAbs w s
  | .iscAbs w => Sys2Proof.Machine.execIscAbs w s
  | .beq b1 => Sys2Proof.Machine.execBeq b1 s
  | .sbcIndy b1 => Sys2Proof.Machine.execSbcIndy b1 s
  | .iscIndy b1 => Sys2Proof.Machine.execIscIndy b1 s
  | .ignZpxF4 b1 => Sys2Proof.Machine.execIgnZpxF4 b1 s
  | .sbcZpx b1 => Sys2Proof.Machine.execSbcZpx b1 s
  | .incZpx b1 => Sys2Proof.Machine.execIncZpx b1 s
  | .iscZpx b1 => Sys2Proof.Machine.execIscZpx b1 s
  | .sed => Sys2Proof.Machine.execSed s
  | .sbcAbsy w => Sys2Proof.Machine.execSbcAbsy w s
  | .iscAbsy w => Sys2Proof.Machine.execIscAbsy w s
  | .ignAbsxFC w => Sys2Proof.Machine.execIgnAbsxFC w s
  | .sbcAbsx w => Sys2Proof.Machine.execSbcAbsx w s
  | .incAbsx w => Sys2Proof.Machine.execIncAbsx w s
  | .iscAbsx w => Sys2Proof.Machine.execIscAbsx w s

end Sys2Proof.Machine
end

