-- ==== Sys2Proof/Machine/Fetch.lean ====
section
/-! DEFINITION. `ExecuteInstruction()` (40_addressing.md R401): the opcode and operand fetches and the crash
(60_exceptions.md R840); and the three ways a step can run (20_memory.md R250). -/

namespace Sys2Proof.Machine

/-- What the fetches of an instruction give: the instruction, or `none` when the opcode is not in the table, and the state
after the reads with PC after the instruction. -/
structure Fetched where
  instr : Option Instr
  st : State

/-- The operand fetches after opcode `op`, read at `pc` (40_addressing.md R401; 20_memory.md R224), and `PC <- opaddr +
length`. -/
def State.fetchOperands (s : State) (pc : Word) (op : Byte) (length : Nat) : Fetched :=
  match length with
  | 1 => ⟨Instr.ofBytes op 0 0, s.setPc (pc + 1)⟩
  | 2 =>
    let b1 := s.busRead (pc + 1)
    ⟨Instr.ofBytes op b1.1 0, b1.2.setPc (pc + 2)⟩
  | _ =>
    let b1 := s.busRead (pc + 1)
    let b2 := b1.2.busRead (pc + 2)
    ⟨Instr.ofBytes op b1.1 b2.1, b2.2.setPc (pc + 3)⟩

/-- The fetches of the instruction at PC (40_addressing.md R401). An opcode outside the table reads no operand byte and
leaves PC (60_exceptions.md R840). -/
def State.fetch (s : State) : Fetched :=
  let pc := s.cpu.pc
  let op := s.busRead pc
  match opcodeLength op.1 with
  | none => ⟨none, op.2⟩
  | some length => op.2.fetchOperands pc op.1 length

/-- The crash (60_exceptions.md R840): PC stays at the opcode, and no device advances. -/
def State.crash (s : State) : State := { s with crashed := some s.cpu.pc, stepCycles := 0 }

/-- The end of a step whose instruction answered `r`: the devices advance (20_memory.md R250). -/
def finish (r : Result) : Result :=
  match r with
  | .next t => .next t.advance
  | .fault f => .fault f
  | .refused q => .refused q

/-- `ExecuteInstruction()` and the rest of a step that runs one (40_addressing.md R401; 20_memory.md R250). -/
def State.runInstruction (s : State) : Result :=
  let f := s.fetch
  match f.instr with
  | none => .next f.st.crash
  | some i => finish (exec i f.st)

/-- A step that is frozen by a crash (60_exceptions.md R841). -/
def State.frozen (s : State) : Bool := s.crashed.isSome && !s.resetRequest

/-- A step that a DMA halt takes (60_exceptions.md R850). -/
def State.halted (s : State) : Bool := decide (0 < s.halt) && !s.resetRequest

/-- The step of a DMA halt: only the devices advance (20_memory.md R250; 60_exceptions.md R850). -/
def State.haltStep (s : State) : State := State.advance { s with halt := 0, stepCycles := s.halt }

/-- The gate of a step, which starts its count of cycles (60_exceptions.md R820; log 11). -/
def State.openGate (s : State) : State := State.gate { s with stepCycles := 0 }

/-- `SystemStep()` (20_memory.md R250) of a block with a cartridge. -/
def State.systemStep (s : State) : Result :=
  if s.frozen then .next s
  else if s.halted then .next s.haltStep
  else s.openGate.runInstruction

end Sys2Proof.Machine
end

