-- ==== Sys2Proof/Machine/Step.lean ====
section
/-! DEFINITION. One step of the machine (20_memory.md R250), and the placing of a single instruction where the next step
fetches it. -/

namespace Sys2Proof.Machine

/-- One step: `SystemStep()` once a cartridge is loaded, and no step before (20_memory.md R250; 63_mappers.md R1102). -/
def step (s : State) : Host.Outcome State Fault Refusal :=
  match s.cart with
  | none => .fault .noCartridge
  | some _ => s.systemStep

/-- `s` with the instruction whose bits are `w` loaded as a cartridge's program and a RESET requested, so that the very next
step performs RESET and runs it (log 9). -/
def State.withFetchWord (s : State) (nbits w : Nat) : State :=
  { s with
    cart := some (Cart.ofCode [tableByte nbits w 0, tableByte nbits w 1, tableByte nbits w 2])
    resetRequest := true }

end Sys2Proof.Machine
end

