-- ==== Sys2Proof/Machine/Console.lean ====
section
/-! DEFINITION. What the host can do to the block between steps (log 18): load and power on, `reset()`, the buttons, a frame,
and taking the samples. -/

namespace Sys2Proof.Machine

/-- Load an image and power on (63_mappers.md R1101, R1102; 70_reset_and_hazards.md R1300). -/
def State.loadImage (power : PowerOn) (init : CartInit) (params : Params) (image : List Byte) : Except LoadError State :=
  match Cart.parse init image with
  | .ok c => .ok (.powerOn power params (some c))
  | .error e => .error e

/-- `ResetPpu()` (70_reset_and_hazards.md R1322). -/
def Ppu.hostReset (p : Ppu) : Ppu := { p with ctrl := 0, mask := 0, w := false, t := 0, x := 0, readBuffer := 0 }

/-- `ResetApu()` (70_reset_and_hazards.md R1323). -/
def Apu.hostReset (u : Apu) : Apu :=
  let u := u.writeEnables 0
  { u with frame := { u.frame with irq := false, cycle := 0 } }

/-- The host's `reset()` (70_reset_and_hazards.md R1320, R1324, R1325): the mapper and the controllers keep everything, and
the next gate performs RESET. -/
def State.hostReset (s : State) : State :=
  { s with ppu := s.ppu.hostReset, apu := s.apu.hostReset, resetRequest := true }

/-- `button_down(1, k)` and `button_up(1, k)` (62_apu_io.md R1082). -/
def State.setButton1 (s : State) (k : Nat) (down : Bool) : State :=
  { s with pads := { s.pads with pad1 := s.pads.pad1.setButton s.pads.strobe k down } }

/-- `button_down(2, k)` and `button_up(2, k)` (62_apu_io.md R1082). -/
def State.setButton2 (s : State) (k : Nat) (down : Bool) : State :=
  { s with pads := { s.pads with pad2 := s.pads.pad2.setButton s.pads.strobe k down } }

/-- The host takes the finished frame, scanlines 0 to 239 of it (20_memory.md R251, D29; log 20). -/
def State.takeFrame (s : State) : Store 24 × State :=
  (s.ppu.frameOut, { s with ppu := { s.ppu with frameComplete := false } })

/-- The host takes the samples delivered so far (20_memory.md R251; 62_apu_io.md R1094; log 20). -/
def State.takeSamples (s : State) : List (Rat × Rat) × State :=
  (s.apu.out.ring, { s with apu := { s.apu with out := { s.apu.out with ring := [] } } })

/-- `frame()`, from a state whose last frame the host has taken (`takeFrame`): steps until the frame completes or the block is
crashed, at most `fuel` of them (20_memory.md R251;
60_exceptions.md R841). -/
def State.runFrame : Nat → State → Result
  | 0, s => .next s
  | fuel + 1, s =>
    match step s with
    | .next t => if t.ppu.frameComplete ∨ t.crashed.isSome = true then .next t else State.runFrame fuel t
    | .fault f => .fault f
    | .refused r => .refused r

end Sys2Proof.Machine
end

