-- ==== Sys2Proof/Machine/Locations.lean ====
section
/-! DEFINITION. Every memory of the block by location: what it holds, and which locations a CPU-bus write stores to. Statements
about what an instruction leaves alone are made in these terms. -/

namespace Sys2Proof.Machine

/-- A location of one of the block's memories, by its index there (20_memory.md R201–R203, R230–R233; 63_mappers.md R1100,
R1103, R1104, R1177). -/
inductive Location where
  | ram (k : Nat)
  | ciram (k : Nat)
  | palette (k : Nat)
  | oam (k : Nat)
  | prg (k : Nat)
  | chr (k : Nat)
  | prgRam (k : Nat)
  | vram (k : Nat)
  | exram (k : Nat)
deriving DecidableEq, Repr

/-- MMC5's ExRAM; empty for the other mappers. -/
def Mapper.exram : Mapper → Memory
  | .mmc5 r => r.exram
  | _ => []

/-- What a location of the cartridge holds. -/
def Cart.byteAt (c : Cart) : Location → Byte
  | .prg k => c.prg.read k
  | .chr k => c.chr.read k
  | .prgRam k => c.prgRam.read k
  | .vram k => c.vram.read k
  | .exram k => c.mapper.exram.read k
  | _ => 0

/-- What a location holds. No side effect: this is no bus access. -/
def State.byteAt (s : State) (l : Location) : Byte :=
  match l with
  | .ram k => s.ram.read k
  | .ciram k => s.ppu.ciram.read k
  | .palette k => (s.ppu.palette.read k).setWidth 8
  | .oam k => s.ppu.oam.read k
  | _ =>
    match s.cart with
    | some c => c.byteAt l
    | none => 0

/-- Where a nametable write at `n` stores: the mapper's override or the mirroring map (20_memory.md R231, R232; 63_mappers.md
R1178). -/
def Cart.nametableTarget (c : Cart) (n : Word) : Option Location :=
  match c.mapper with
  | .mmc5 r =>
    match r.ntSelect n with
    | 0 => some (.ciram (n.toNat % 0x400))
    | 1 => some (.ciram (0x400 + n.toNat % 0x400))
    | 2 => if r.exramMode ≤ 1 then some (.exram (n.toNat % 0x400)) else none
    | _ => none
  | _ =>
    let k := c.mirroring.index n
    if k < 0x800 then some (.ciram k) else some (.vram (k % 0x800))

/-- Where a PPU-bus write stores, of a state whose address hook has run (20_memory.md R230–R234; 63_mappers.md R1104). -/
def State.ppuTarget (s : State) (a : Word) : Option Location :=
  if 0x3F00 ≤ a then some (.palette (paletteIndex a.toNat))
  else
    match s.cart with
    | none => none
    | some c =>
      if a < 0x2000 then
        if c.chrIsRam then some (.chr (c.chrIndex .data a)) else none
      else c.nametableTarget (nametableAddress a)

/-- Where a cartridge write stores (63_mappers.md R1103, R1172, R1177); register writes store nowhere. -/
def Cart.target (c : Cart) (a : Word) : Option Location :=
  if a < 0x6000 then
    match c.mapper with
    | .mmc5 r => if 0x5C00 ≤ a ∧ r.exramMode ≠ 3 then some (.exram (a - 0x5C00).toNat) else none
    | _ => none
  else
    match c.prgTarget a with
    | .ram k => if c.mapper.prgRamWritable then some (.prgRam k) else none
    | .rom _ => none

/-- Whether a location is in OAM. -/
def Location.inOam : Location → Bool
  | .oam _ => true
  | _ => false

/-- Whether a CPU-bus write at `a` stores to location `l` (20_memory.md R202): the one byte the write reaches, or all of OAM
for a write of 0x4014 (61_ppu.md R918). -/
def State.writesAt (s : State) (a : Word) (l : Location) : Bool :=
  if a < 0x2000 then l == .ram (ramIndex a)
  else if a < 0x4000 then
    match (a &&& 7).toNat with
    | 4 => l == .oam s.ppu.oamAddr.toNat
    | 7 =>
      let p : Word := s.ppu.v.setWidth 16 &&& 0x3FFF
      (s.addressHook p).ppuTarget p == some l
    | _ => false
  else if a = 0x4014 then l.inOam
  else if a < 0x4020 then false
  else
    match s.cart with
    | some c => c.target a == some l
    | none => false

/-- `n` bytes read one after the other from `a` on, addresses modulo 65536 (20_memory.md R224). -/
def State.readBytes (s : State) (a : Word) : Nat → List Byte × State
  | 0 => ([], s)
  | n + 1 =>
    let b := s.busRead a
    let rest := b.2.readBytes (a + 1) n
    (b.1 :: rest.1, rest.2)

end Sys2Proof.Machine
end

