-- ==== Sys2Proof/Safety.lean ====
section
/-! DEFINITION. What counts as a good state: the invariant that every step keeps, in its parts, and a run that has not
crashed. -/

namespace Sys2Proof.Machine

/-- A storage in canonical form with every index below `n`. -/
def Store.Within {w : Nat} (n : Nat) (m : Store w) : Prop := m.wf = true ∧ m.below n = true

/-- The PPU's memories are in canonical form and of their sizes (61_ppu.md R900, R955). -/
def Ppu.MemoriesInv (p : Ppu) : Prop :=
  p.ciram.Within 2048 ∧ p.palette.Within 32 ∧ p.oam.Within 256 ∧ p.framebuffer.Within (256 * 240) ∧
    p.frameOut.Within (256 * 240)

/-- The position is in a frame, and secondary OAM holds at most eight of the 64 sprites (61_ppu.md R900, R906, R931). -/
def Ppu.PositionInv (p : Ppu) : Prop :=
  p.scanline ≤ 261 ∧ p.dot ≤ 340 ∧ p.secondary.length ≤ 8 ∧ ∀ e ∈ p.secondary, e.index < 64

/-- The invariant of the PPU. -/
def Ppu.Inv (p : Ppu) : Prop := p.MemoriesInv ∧ p.PositionInv

/-- The invariant of the APU: the LFSR never reaches 0 (62_apu_io.md R1021), the DMC shifter holds 1 to 8 bits (R1061), the
frame counter stays in its sequence (R1051), the sample ring does not outgrow its capacity (R1094). -/
def Apu.Inv (u : Apu) : Prop :=
  u.noise.lfsr ≠ 0 ∧ (1 ≤ u.dmc.bits ∧ u.dmc.bits ≤ 8) ∧
    u.frame.cycle ≤ (if u.frame.mode then 37281 else 29829) ∧ u.out.ring.length ≤ ringCapacity

/-- The invariant of a mapper: MMC1 has collected at most four writes (63_mappers.md R1131), MMC5's ExRAM is of its size
(R1170). -/
def Mapper.Inv : Mapper → Prop
  | .mmc1 r => r.srN ≤ 4
  | .mmc5 r => r.exram.Within 1024
  | _ => True

/-- How much PRG-RAM a mapper has (63_mappers.md R1103, R1170). -/
def Mapper.prgRamSize : Mapper → Nat
  | .mmc5 _ => 65536
  | _ => 8192

/-- The invariant of a cartridge (63_mappers.md R1100, R1103; 20_memory.md R231). -/
def Cart.Inv (c : Cart) : Prop :=
  (0 < c.prgSize ∧ c.prg.Within c.prgSize) ∧ (0 < c.chrSize ∧ c.chr.Within c.chrSize) ∧
    c.prgRam.Within c.mapper.prgRamSize ∧ c.vram.Within 2048 ∧ c.mapper.Inv

/-- The invariant of the block. -/
def State.Inv (s : State) : Prop :=
  s.ram.Within 2048 ∧ s.ppu.Inv ∧ s.apu.Inv ∧ ∀ c, s.cart = some c → c.Inv

/-- A state that can run: a cartridge is loaded and no crash has happened (60_exceptions.md R841; 63_mappers.md R1102). -/
def State.Running (s : State) : Prop := s.cart.isSome = true ∧ s.crashed = none

end Sys2Proof.Machine
end

