-- ==== Sys2Proof/Certificates/Slice0/Obligations.lean ====
section
/-! DEFINITION. The statements about the machine, each from the rules of spec/ its docstring names. A statement about
instructions is about every instruction of the mnemonics it names; `i.operand` is its operand form, `s.load`, `s.resolve` and
the bus operations are the model's, which the statements on addressing modes and on the bus say out. -/

open Sys2Proof Sys2Proof.Machine

/-! ## Encoding -/

/-- Every instruction is well-formed, and decoding its encoding, whatever bytes follow, gives it back with those bytes
(30_encoding.md R301–R303, R305, 40_addressing.md R416). All 229 constructors. -/
def Obligations.DecodeEncodeAgree : Prop :=
  ∀ (i : Instr) (rest : List Byte), i.wellFormed = true ∧ decode (encode i ++ rest) = .ok (i, rest)

/-- Bytes that decode to an instruction begin with its encoding: no other bytes stand for it (30_encoding.md R302, R307,
R341). -/
def Obligations.DecodedBytesAreTheEncoding : Prop :=
  ∀ (bytes rest : List Byte) (i : Instr), decode bytes = .ok (i, rest) → bytes = encode i ++ rest

/-- 30_encoding.md R306 and 60_exceptions.md R840: exactly the 27 listed opcodes are outside the table, and a step that fetches
one of them crashes: the fetch read has happened and nothing else; no register and no memory byte changes, no device
advances. `g` is the state after the gate. That the crash is a next state, with the step's cycle field 0, is the model's choice
(log 10, log 11). -/
def Obligations.IllegalOpcodesCrash : Prop :=
  let illegal : List Byte := [0x02, 0x12, 0x22, 0x32, 0x42, 0x52, 0x62, 0x72, 0x92, 0xB2, 0xD2, 0xF2, 0x1A, 0x3A, 0x5A, 0x7A,
    0xDA, 0xFA, 0x8B, 0x93, 0x9B, 0x9C, 0x9E, 0x9F, 0xAB, 0xBB, 0xEB]
  (∀ op b1 b2 : Byte, Instr.ofBytes op b1 b2 = none ↔ op ∈ illegal) ∧
  ∀ s : State, s.cart.isSome = true → s.frozen = false → s.halted = false →
    let g := s.openGate
    let r := g.busRead g.cpu.pc
    r.1 ∈ illegal →
      step s = .next { r.2 with crashed := some g.cpu.pc, stepCycles := 0 } ∧ r.2.cpu = g.cpu ∧
        ∀ l, r.2.byteAt l = g.byteAt l

/-- One word of each of six families, and an illegal opcode, written out from the map of 30_encoding.md R305 (A9 LDA imm, 6D
ADC abs, 6C JMP ind, 08 PHP, D0 BNE, B3 LAX indy, EB crash). -/
def Obligations.FewWordsDecode : Prop :=
  decode [0xA9, 0x7F] = .ok (.ldaImm 0x7F, []) ∧ decode [0x6D, 0x34, 0x12] = .ok (.adcAbs 0x1234, []) ∧
  decode [0x6C, 0xFF, 0x02] = .ok (.jmpInd 0x02FF, []) ∧ decode [0x08] = .ok (.php, []) ∧
  decode [0xD0, 0xFE] = .ok (.bne 0xFE, []) ∧ decode [0xB3, 0x86] = .ok (.laxIndy 0x86, []) ∧
  decode [0xEB, 0x01] = .error (.illegalOpcode 0xEB)

/-- 40_addressing.md R401 and 20_memory.md R224, R250: when no crash or halt holds the step, the bytes at PC after the gate
decode to `i`, and `exec i` answers `t` from the state after the fetch reads with PC after the instruction, the step answers
`t` with its cycles counted, then the APU and the PPU advanced through them. -/
def Obligations.StepRunsDecodedInstruction : Prop :=
  ∀ (s t : State) (i : Instr), s.cart.isSome = true → s.frozen = false → s.halted = false → i.wellFormed = true →
    let g := s.openGate
    let f := g.readBytes g.cpu.pc i.length
    decode f.1 = .ok (i, []) → exec i (f.2.setPc (g.cpu.pc + BitVec.ofNat 16 i.length)) = .next t →
      step s = .next (State.ppuAdvance (3 * t.stepCycles)
        (State.apuAdvance t.stepCycles { t with cpuCycles := t.cpuCycles + t.stepCycles }))

/-! ## Operands and shared computations -/

/-- 40_addressing.md R405–R408, R410, R411, R413, R414 and 20_memory.md R221, R222, with absolute (R409) and the Load of R402
beside them: what `load` gives for immediate and for a memory mode, whose operand is the one bus read at the
effective address after the mode's own pointer reads; the effective address, the page-cross test and the pointer reads of all
eight memory modes, the two pointer reads low byte first; the mnemonics of zero-page-Y and indirect. -/
def Obligations.AddressingModes : Prop :=
  (∀ (s : State) (b : Byte),
    (s.load (.imm b)).val = b ∧ (s.load (.imm b)).crossed = false ∧ (s.load (.imm b)).st = s ∧
    s.resolve (.zp b) = ⟨b.setWidth 16, false, s⟩ ∧
    s.resolve (.zpx b) = ⟨(b + s.cpu.x).setWidth 16, false, s⟩ ∧
    s.resolve (.zpy b) = ⟨(b + s.cpu.y).setWidth 16, false, s⟩ ∧
    (let z := b + s.cpu.x
     let l := s.busRead (z.setWidth 16)
     let h := l.2.busRead ((z + 1).setWidth 16)
     s.resolve (.indx b) = ⟨h.1 ++ l.1, false, h.2⟩) ∧
    (let l := s.busRead (b.setWidth 16)
     let h := l.2.busRead ((b + 1).setWidth 16)
     let base : Word := h.1 ++ l.1
     let ea : Word := base + s.cpu.y.setWidth 16
     s.resolve (.indy b) = ⟨ea, base.extractLsb' 8 8 != ea.extractLsb' 8 8, h.2⟩)) ∧
  (∀ (s : State) (m : MemMode),
    let r := s.resolve m
    let b := r.st.busRead r.ea
    (s.load (.mem m)).val = b.1 ∧ (s.load (.mem m)).crossed = r.crossed ∧ (s.load (.mem m)).st = b.2) ∧
  (∀ (s : State) (w : Word),
    s.resolve (.abs w) = ⟨w, false, s⟩ ∧
    (let ea : Word := w + s.cpu.x.setWidth 16
     s.resolve (.absx w) = ⟨ea, w.extractLsb' 8 8 != ea.extractLsb' 8 8, s⟩) ∧
    (let ea : Word := w + s.cpu.y.setWidth 16
     s.resolve (.absy w) = ⟨ea, w.extractLsb' 8 8 != ea.extractLsb' 8 8, s⟩) ∧
    (let l := s.busRead w
     let h := l.2.busRead ((w &&& 0xFF00) ||| ((w + 1) &&& 0x00FF))
     s.read16Bug w = (h.1 ++ l.1, h.2) ∧ (w.extractLsb' 0 8 ≠ 0xFF → s.read16Bug w = s.read16 w))) ∧
  ∀ i : Instr, (i.operand.mode = .zpy → i.mnemonic ∈ [.ldx, .stx, .lax, .sax]) ∧
    (i.operand.mode = .ind → i.mnemonic = .jmp)

/-- 42_arithmetic_compare.md R500 and R501: the binary adder and the compare, on the registers alone. V is stated by the sign
bits; D is not read. -/
def Obligations.AluCores : Prop :=
  ∀ (r : Cpu) (reg m : Byte),
    (let sum := r.a.toNat + m.toNat + (if r.c then 1 else 0)
     let res : Byte := BitVec.ofNat 8 sum
     r.addCore m = { r with
       a := res, c := decide (255 < sum), v := (r.a.msb == m.msb) && (res.msb != r.a.msb), n := res.msb, z := res == 0 }) ∧
    r.compareCore reg m = { r with c := decide (m.toNat ≤ reg.toNat), n := (reg - m).msb, z := decide (reg = m) }

/-- 43_logic_shift.md R550: the byte of each shift function as a number, the bit shifted out in C, N and Z from the result,
everything else unchanged. -/
def Obligations.ShiftFunctions : Prop :=
  ∀ (r : Cpu) (v : Byte) (f : Cpu → Byte → Byte × Cpu) (res : Nat) (out : Bool),
    (f = Cpu.shiftL ∧ res = 2 * v.toNat % 256 ∧ out = v.getLsbD 7 ∨
     f = Cpu.shiftR ∧ res = v.toNat / 2 ∧ out = v.getLsbD 0 ∨
     f = Cpu.rotL ∧ res = 2 * v.toNat % 256 + (if r.c then 1 else 0) ∧ out = v.getLsbD 7 ∨
     f = Cpu.rotR ∧ res = v.toNat / 2 + (if r.c then 128 else 0) ∧ out = v.getLsbD 0) →
      (f r v).1.toNat = res ∧ (f r v).2 = { r with c := out, n := decide (128 ≤ res), z := decide (res = 0) }

/-! ## Loads, stores, transfers -/

/-- LDA, LDX, LDY (41_load_store_transfer.md R451–R453) and LAX (46_unofficial.md R705), every form: the loaded byte, N and Z
from it, the base cycles and the page-cross cycle (40_addressing.md R417, R418), and nothing but the bus reads of the operand
besides. -/
def Obligations.LoadResults : Prop :=
  ∀ (i : Instr) (s : State),
    let l := s.load i.operand
    let answer := fun r : Cpu => (.next { l.st with
      cpu := { r with n := l.val.getLsbD 7, z := l.val == 0 }
      stepCycles := s.stepCycles + i.baseCycles + (if l.crossed then 1 else 0) } : Result)
    (i.mnemonic = .lda → exec i s = answer { s.cpu with a := l.val }) ∧
    (i.mnemonic = .ldx → exec i s = answer { s.cpu with x := l.val }) ∧
    (i.mnemonic = .ldy → exec i s = answer { s.cpu with y := l.val }) ∧
    (i.mnemonic = .lax → exec i s = answer { s.cpu with a := l.val, x := l.val })

/-- STA, STX, STY (41_load_store_transfer.md R454–R456) and SAX (46_unofficial.md R706), every form: one bus write at the
effective address, no read there, no register written, the base cycles only. -/
def Obligations.StoreResults : Prop :=
  ∀ (i : Instr) (s : State),
    let answer := fun (m : MemMode) (v : Byte) => (.next { (s.resolve m).st.busWrite (s.resolve m).ea v false with
      stepCycles := s.stepCycles + i.baseCycles } : Result)
    (i.mnemonic = .sta → ∃ m, i.operand = .mem m ∧ exec i s = answer m s.cpu.a) ∧
    (i.mnemonic = .stx → ∃ m, i.operand = .mem m ∧ exec i s = answer m s.cpu.x) ∧
    (i.mnemonic = .sty → ∃ m, i.operand = .mem m ∧ exec i s = answer m s.cpu.y) ∧
    (i.mnemonic = .sax → ∃ m, i.operand = .mem m ∧ exec i s = answer m (s.cpu.a &&& s.cpu.x))

/-- TAX, TAY, TSX, TXA, TYA with N and Z, TXS with no flag (41_load_store_transfer.md R457–R462); INX, INY, DEX, DEY
(42_arithmetic_compare.md R509–R512): nothing else changes but two cycles. -/
def Obligations.RegisterResults : Prop :=
  ∀ s : State,
    let nz := fun (r : Cpu) (v : Byte) => (.next { s with
      cpu := { r with n := v.getLsbD 7, z := v == 0 }, stepCycles := s.stepCycles + 2 } : Result)
    exec .tax s = nz { s.cpu with x := s.cpu.a } s.cpu.a ∧
    exec .tay s = nz { s.cpu with y := s.cpu.a } s.cpu.a ∧
    exec .tsx s = nz { s.cpu with x := s.cpu.sp } s.cpu.sp ∧
    exec .txa s = nz { s.cpu with a := s.cpu.x } s.cpu.x ∧
    exec .tya s = nz { s.cpu with a := s.cpu.y } s.cpu.y ∧
    exec .txs s = .next { s with cpu := { s.cpu with sp := s.cpu.x }, stepCycles := s.stepCycles + 2 } ∧
    exec .inx s = nz { s.cpu with x := s.cpu.x + 1 } (s.cpu.x + 1) ∧
    exec .iny s = nz { s.cpu with y := s.cpu.y + 1 } (s.cpu.y + 1) ∧
    exec .dex s = nz { s.cpu with x := s.cpu.x - 1 } (s.cpu.x - 1) ∧
    exec .dey s = nz { s.cpu with y := s.cpu.y - 1 } (s.cpu.y - 1)

/-! ## Arithmetic, logic, shifts -/

/-- ADC and SBC (42_arithmetic_compare.md R502, R503), every form: A plus the operand and C, or plus its complement and C. -/
def Obligations.AddSubtractResults : Prop :=
  ∀ (i : Instr) (s : State),
    let l := s.load i.operand
    let answer := fun (m : Byte) =>
      let sum := s.cpu.a.toNat + m.toNat + (if s.cpu.c then 1 else 0)
      let res : Byte := BitVec.ofNat 8 sum
      (.next { l.st with
        cpu := { s.cpu with
          a := res, c := decide (255 < sum), v := (s.cpu.a.msb == m.msb) && (res.msb != s.cpu.a.msb), n := res.msb
          z := res == 0 }
        stepCycles := s.stepCycles + i.baseCycles + (if l.crossed then 1 else 0) } : Result)
    (i.mnemonic = .adc → exec i s = answer l.val) ∧ (i.mnemonic = .sbc → exec i s = answer (~~~l.val))

/-- CMP, CPX, CPY (42_arithmetic_compare.md R504–R506), every form: C, Z and N from the register minus the operand; nothing
else but the operand's bus reads and the cycles. -/
def Obligations.CompareResults : Prop :=
  ∀ (i : Instr) (s : State),
    let l := s.load i.operand
    let answer := fun (r : Byte) => (.next { l.st with
      cpu := { s.cpu with c := decide (l.val.toNat ≤ r.toNat), n := (r - l.val).msb, z := decide (r = l.val) }
      stepCycles := s.stepCycles + i.baseCycles + (if l.crossed then 1 else 0) } : Result)
    (i.mnemonic = .cmp → exec i s = answer s.cpu.a) ∧ (i.mnemonic = .cpx → exec i s = answer s.cpu.x) ∧
    (i.mnemonic = .cpy → exec i s = answer s.cpu.y)

/-- AND, ORA, EOR, BIT (43_logic_shift.md R551–R554), every form. -/
def Obligations.LogicResults : Prop :=
  ∀ (i : Instr) (s : State),
    let l := s.load i.operand
    let answer := fun r : Cpu => (.next { l.st with
      cpu := r, stepCycles := s.stepCycles + i.baseCycles + (if l.crossed then 1 else 0) } : Result)
    let toA := fun v : Byte => answer { s.cpu with a := v, n := v.getLsbD 7, z := v == 0 }
    (i.mnemonic = .and → exec i s = toA (s.cpu.a &&& l.val)) ∧ (i.mnemonic = .ora → exec i s = toA (s.cpu.a ||| l.val)) ∧
    (i.mnemonic = .eor → exec i s = toA (s.cpu.a ^^^ l.val)) ∧
    (i.mnemonic = .bit → exec i s = answer { s.cpu with
      z := s.cpu.a &&& l.val == 0, n := l.val.getLsbD 7, v := l.val.getLsbD 6 })

/-- INC, DEC (42_arithmetic_compare.md R507, R508) and ASL, LSR, ROL, ROR on memory (43_logic_shift.md R555–R558), every form:
one read, the old byte written back, the new byte written as a consecutive write (20_memory.md R216), N and Z from the new
byte, C the bit shifted out, the base cycles only. -/
def Obligations.ModifyResults : Prop :=
  ∀ (i : Instr) (s : State) (m : MemMode), i.operand = .mem m →
    let r := s.resolve m
    let b := r.st.busRead r.ea
    let old := b.1
    let carry : Byte := if s.cpu.c then 1 else 0
    let answer := fun (new : Byte) (c : Bool) => (.next { (b.2.busWrite r.ea old false).busWrite r.ea new true with
      cpu := { s.cpu with c := c, n := new.getLsbD 7, z := new == 0 }
      stepCycles := s.stepCycles + i.baseCycles } : Result)
    (i.mnemonic = .inc → exec i s = answer (old + 1) s.cpu.c) ∧ (i.mnemonic = .dec → exec i s = answer (old - 1) s.cpu.c) ∧
    (i.mnemonic = .asl → exec i s = answer (old <<< 1) (old.getLsbD 7)) ∧
    (i.mnemonic = .lsr → exec i s = answer (old >>> 1) (old.getLsbD 0)) ∧
    (i.mnemonic = .rol → exec i s = answer ((old <<< 1) ||| carry) (old.getLsbD 7)) ∧
    (i.mnemonic = .ror → exec i s = answer ((old >>> 1) ||| (carry <<< 7)) (old.getLsbD 0))

/-- ASL, LSR, ROL, ROR on the accumulator (43_logic_shift.md R555–R558): opcodes 0A, 4A, 2A, 6A. -/
def Obligations.AccumulatorShiftResults : Prop :=
  ∀ s : State,
    let a := s.cpu.a
    let carry : Byte := if s.cpu.c then 1 else 0
    let answer := fun (new : Byte) (c : Bool) => (.next { s with
      cpu := { s.cpu with a := new, c := c, n := new.getLsbD 7, z := new == 0 }, stepCycles := s.stepCycles + 2 } : Result)
    exec .aslAcc s = answer (a <<< 1) (a.getLsbD 7) ∧ exec .lsrAcc s = answer (a >>> 1) (a.getLsbD 0) ∧
    exec .rolAcc s = answer ((a <<< 1) ||| carry) (a.getLsbD 7) ∧
    exec .rorAcc s = answer ((a >>> 1) ||| (carry <<< 7)) (a.getLsbD 0)

/-! ## Control transfer, stack, flags -/

/-- JMP absolute, JMP indirect with its page wrap, JSR (44_control_transfer.md R601, R602; 20_memory.md R221): JSR stores the
address of its last byte, high byte first, in the stack page of RAM. PC stands after the instruction. -/
def Obligations.JumpResults : Prop :=
  ∀ (w : Word) (s : State),
    exec (.jmpAbs w) s = .next { s with cpu := { s.cpu with pc := w }, stepCycles := s.stepCycles + 3 } ∧
    (let l := s.busRead w
     let h := l.2.busRead ((w &&& 0xFF00) ||| ((w + 1) &&& 0x00FF))
     exec (.jmpInd w) s =
       .next { h.2 with cpu := { s.cpu with pc := h.1 ++ l.1 }, stepCycles := s.stepCycles + 5 }) ∧
    (let ret := s.cpu.pc - 1
     exec (.jsrAbs w) s = .next { s with
       ram := (s.ram.write (0x100 + s.cpu.sp.toNat) (ret.extractLsb' 8 8)).write (0x100 + (s.cpu.sp - 1).toNat)
         (ret.extractLsb' 0 8)
       cpu := { s.cpu with pc := w, sp := s.cpu.sp - 2 }
       stepCycles := s.stepCycles + 6 })

/-- RTS (44_control_transfer.md R603) and RTI (45_stack_flags_system.md R663): the bytes pulled from the stack page of RAM; RTS
adds one to the address, RTI restores the six flags and adds nothing. -/
def Obligations.ReturnResults : Prop :=
  ∀ s : State,
    let pulled := fun k : Byte => s.ram.read (0x100 + (s.cpu.sp + k).toNat)
    exec .rts s = .next { s with
      cpu := { s.cpu with pc := (pulled 2 ++ pulled 1) + 1, sp := s.cpu.sp + 2 }, stepCycles := s.stepCycles + 6 } ∧
    exec .rti s = .next { s with
      cpu := { s.cpu with
        c := (pulled 1).getLsbD 0, z := (pulled 1).getLsbD 1, i := (pulled 1).getLsbD 2, d := (pulled 1).getLsbD 3
        v := (pulled 1).getLsbD 6, n := (pulled 1).getLsbD 7, pc := pulled 3 ++ pulled 2, sp := s.cpu.sp + 3 }
      stepCycles := s.stepCycles + 6 }

/-- The eight branches (44_control_transfer.md R600, R604–R611): not taken, two cycles and nothing else; taken, PC plus the
signed offset, three cycles, or four into another page. -/
def Obligations.BranchResults : Prop :=
  ∀ (b : Byte) (s : State),
    let pc : Word := s.cpu.pc + b.signExtend 16
    let answer := fun taken : Bool => (.next (if taken then { s with
      cpu := { s.cpu with pc := pc }
      stepCycles := s.stepCycles + (if pc.extractLsb' 8 8 = s.cpu.pc.extractLsb' 8 8 then 3 else 4) }
      else { s with stepCycles := s.stepCycles + 2 }) : Result)
    exec (.bcc b) s = answer (s.cpu.c == false) ∧ exec (.bcs b) s = answer (s.cpu.c == true) ∧
    exec (.bne b) s = answer (s.cpu.z == false) ∧ exec (.beq b) s = answer (s.cpu.z == true) ∧
    exec (.bpl b) s = answer (s.cpu.n == false) ∧ exec (.bmi b) s = answer (s.cpu.n == true) ∧
    exec (.bvc b) s = answer (s.cpu.v == false) ∧ exec (.bvs b) s = answer (s.cpu.v == true)

/-- PHA, PHP, PLA, PLP (45_stack_flags_system.md R650–R653), in the stack page of RAM. PHP pushes the flags with bits 5 and 4
set. -/
def Obligations.StackResults : Prop :=
  ∀ s : State,
    let push := fun v : Byte => (.next { s with
      ram := s.ram.write (0x100 + s.cpu.sp.toNat) v, cpu := { s.cpu with sp := s.cpu.sp - 1 }
      stepCycles := s.stepCycles + 3 } : Result)
    let p := s.ram.read (0x100 + (s.cpu.sp + 1).toNat)
    exec .pha s = push s.cpu.a ∧
    exec .php s = push (flagBit s.cpu.n 7 ||| flagBit s.cpu.v 6 ||| 0x30 ||| flagBit s.cpu.d 3 ||| flagBit s.cpu.i 2 |||
      flagBit s.cpu.z 1 ||| flagBit s.cpu.c 0) ∧
    exec .pla s = .next { s with
      cpu := { s.cpu with a := p, sp := s.cpu.sp + 1, n := p.getLsbD 7, z := p == 0 }, stepCycles := s.stepCycles + 4 } ∧
    exec .plp s = .next { s with
      cpu := { s.cpu with
        c := p.getLsbD 0, z := p.getLsbD 1, i := p.getLsbD 2, d := p.getLsbD 3, v := p.getLsbD 6, n := p.getLsbD 7
        sp := s.cpu.sp + 1 }
      stepCycles := s.stepCycles + 4 }

/-- CLC, CLD, CLI, CLV, SEC, SED, SEI, NOP (45_stack_flags_system.md R654–R661) and the five SKB opcodes (46_unofficial.md
R713): one flag or nothing, and two cycles. -/
def Obligations.FlagResults : Prop :=
  ∀ s : State,
    let answer := fun r : Cpu => (.next { s with cpu := r, stepCycles := s.stepCycles + 2 } : Result)
    exec .clc s = answer { s.cpu with c := false } ∧ exec .cld s = answer { s.cpu with d := false } ∧
    exec .cli s = answer { s.cpu with i := false } ∧ exec .clv s = answer { s.cpu with v := false } ∧
    exec .sec s = answer { s.cpu with c := true } ∧ exec .sed s = answer { s.cpu with d := true } ∧
    exec .sei s = answer { s.cpu with i := true } ∧ exec .nop s = answer s.cpu ∧
    ∀ i : Instr, i.mnemonic = .skb → exec i s = answer s.cpu

/-- IGN (46_unofficial.md R714), all sixteen opcodes: the read at the effective address with its side effects, the cycles, and
nothing else. -/
def Obligations.IgnResults : Prop :=
  ∀ (i : Instr) (s : State), i.mnemonic = .ign → ∃ m, i.operand = .mem m ∧
    let r := s.resolve m
    exec i s = .next { (r.st.busRead r.ea).2 with
      stepCycles := s.stepCycles + i.baseCycles + (if r.crossed then 1 else 0) }

/-- BRK (45_stack_flags_system.md R662): PC here is opaddr + 1, so opaddr + 2 is pushed, then the flags with B = 1; I is set and
PC read from 0xFFFE; seven cycles. It is taken whatever I is. -/
def Obligations.BrkResult : Prop :=
  ∀ s : State,
    let ret := s.cpu.pc + 1
    let status := flagBit s.cpu.n 7 ||| flagBit s.cpu.v 6 ||| 0x30 ||| flagBit s.cpu.d 3 ||| flagBit s.cpu.i 2 |||
      flagBit s.cpu.z 1 ||| flagBit s.cpu.c 0
    let t := { s with ram := ((s.ram.write (0x100 + s.cpu.sp.toNat) (ret.extractLsb' 8 8)).write
      (0x100 + (s.cpu.sp - 1).toNat) (ret.extractLsb' 0 8)).write (0x100 + (s.cpu.sp - 2).toNat) status }
    let l := t.busRead 0xFFFE
    let h := l.2.busRead 0xFFFF
    exec .brk s = .next { h.2 with
      cpu := { s.cpu with sp := s.cpu.sp - 3, i := true, pc := h.1 ++ l.1 }, stepCycles := s.stepCycles + 7 }

/-! ## Unofficial instructions -/

/-- ALR, ANC (both opcodes), ARR, AXS (46_unofficial.md R701–R704). -/
def Obligations.UnofficialImmediateResults : Prop :=
  ∀ (b : Byte) (s : State),
    let t := s.cpu.a &&& b
    let x := s.cpu.a &&& s.cpu.x
    let carry : Byte := if s.cpu.c then 0x80 else 0
    let answer := fun (r : Cpu) (v : Byte) => (.next { s with
      cpu := { r with n := v.getLsbD 7, z := v == 0 }, stepCycles := s.stepCycles + 2 } : Result)
    exec (.alrImm b) s = answer { s.cpu with a := t >>> 1, c := t.getLsbD 0 } (t >>> 1) ∧
    exec (.ancImm0B b) s = answer { s.cpu with a := t, c := t.getLsbD 7 } t ∧
    exec (.ancImm2B b) s = answer { s.cpu with a := t, c := t.getLsbD 7 } t ∧
    (let r := (t >>> 1) ||| carry
     exec (.arrImm b) s = answer { s.cpu with a := r, c := r.getLsbD 6, v := r.getLsbD 6 ^^ r.getLsbD 5 } r) ∧
    exec (.axsImm b) s = answer { s.cpu with x := x - b, c := decide (b.toNat ≤ x.toNat) } (x - b)

/-- DCP, ISC, RLA, RRA, SLO, SRE (46_unofficial.md R707–R712), every form: the read-modify-write of memory, then the compare,
subtract, and, add, or, exclusive-or of A with the byte written; a rotate's carry out is the add's carry in. The adder and the
compare are those of 42_arithmetic_compare.md R500, R501. -/
def Obligations.UnofficialModifyResults : Prop :=
  ∀ (i : Instr) (s : State),
    let answer := fun (m : MemMode) (new : Byte → Byte) (f : Byte → Cpu) =>
      let r := s.resolve m
      let b := r.st.busRead r.ea
      (.next { (b.2.busWrite r.ea b.1 false).busWrite r.ea (new b.1) true with
        cpu := f b.1, stepCycles := s.stepCycles + i.baseCycles } : Result)
    let carry : Byte := if s.cpu.c then 1 else 0
    let left := fun old : Byte => (old <<< 1) ||| carry
    let right := fun old : Byte => (old >>> 1) ||| (carry <<< 7)
    let toA := fun (c : Bool) (v : Byte) => { s.cpu with a := v, c := c, n := v.getLsbD 7, z := v == 0 }
    (i.mnemonic = .dcp → ∃ m, i.operand = .mem m ∧
      exec i s = answer m (· - 1) fun old => s.cpu.compareCore s.cpu.a (old - 1)) ∧
    (i.mnemonic = .isc → ∃ m, i.operand = .mem m ∧
      exec i s = answer m (· + 1) fun old => s.cpu.addCore (~~~(old + 1))) ∧
    (i.mnemonic = .rla → ∃ m, i.operand = .mem m ∧
      exec i s = answer m left fun old => toA (old.getLsbD 7) (s.cpu.a &&& left old)) ∧
    (i.mnemonic = .rra → ∃ m, i.operand = .mem m ∧
      exec i s = answer m right fun old => Cpu.addCore { s.cpu with c := old.getLsbD 0 } (right old)) ∧
    (i.mnemonic = .slo → ∃ m, i.operand = .mem m ∧
      exec i s = answer m (· <<< 1) fun old => toA (old.getLsbD 7) (s.cpu.a ||| old <<< 1)) ∧
    (i.mnemonic = .sre → ∃ m, i.operand = .mem m ∧
      exec i s = answer m (· >>> 1) fun old => toA (old.getLsbD 0) (s.cpu.a ^^^ old >>> 1))

/-! ## Whole-machine rules and frames -/

/-- No instruction stops: every one of the 229 constructors answers a next state on every state. With a cartridge every step
answers a next state; without one, `step` answers the fault of 63_mappers.md R1102 (60_exceptions.md R842: no access or
instruction faults). That the model has states without a cartridge is its choice (log 9); that the step which crashes and every
step while crashed (R840, R841) are next states too, and no fault, is its choice as well (log 10). -/
def Obligations.NothingStops : Prop :=
  (∀ (i : Instr) (s : State), ∃ t, exec i s = .next t) ∧
  ∀ s : State, (s.cart = none → step s = .fault .noCartridge) ∧ (s.cart.isSome = true → ∃ t, step s = .next t)

/-- 10_state.md R101–R104, R109: the only instructions that can write A, X, Y, SP and PC (PC stands after the instruction). The
shifts write A in the accumulator form only. -/
def Obligations.RegisterWriters : Prop :=
  ∀ (i : Instr) (s t : State), exec i s = .next t →
    (t.cpu.a = s.cpu.a ∨ i.mnemonic ∈ [.lda, .pla, .txa, .tya, .adc, .sbc, .and, .ora, .eor, .lax, .alr, .anc, .arr, .slo,
      .rla, .sre, .rra, .isc] ∨ i.operand = .acc ∧ i.mnemonic ∈ [.asl, .lsr, .rol, .ror]) ∧
    (t.cpu.x = s.cpu.x ∨ i.mnemonic ∈ [.ldx, .tax, .tsx, .inx, .dex, .lax, .axs]) ∧
    (t.cpu.y = s.cpu.y ∨ i.mnemonic ∈ [.ldy, .tay, .iny, .dey]) ∧
    (t.cpu.sp = s.cpu.sp ∨ i.mnemonic ∈ [.txs, .pha, .php, .pla, .plp, .jsr, .rts, .rti, .brk]) ∧
    (t.cpu.pc = s.cpu.pc ∨ i.mnemonic ∈ [.jmp, .jsr, .rts, .rti, .brk, .bcc, .bcs, .beq, .bmi, .bne, .bpl, .bvc, .bvs])

/-- 10_state.md R115: the only instructions that can write each flag. -/
def Obligations.FlagWriters : Prop :=
  ∀ (i : Instr) (s t : State), exec i s = .next t →
    let nz : List Mnemonic := [.lda, .ldx, .ldy, .tax, .tay, .tsx, .txa, .tya, .pla, .adc, .sbc, .and, .ora, .eor, .cmp, .cpx,
      .cpy, .bit, .inc, .dec, .inx, .iny, .dex, .dey, .asl, .lsr, .rol, .ror, .plp, .rti, .alr, .anc, .arr, .axs, .lax, .dcp,
      .isc, .rla, .rra, .slo, .sre]
    (t.cpu.c = s.cpu.c ∨ i.mnemonic ∈ [.adc, .sbc, .cmp, .cpx, .cpy, .asl, .lsr, .rol, .ror, .clc, .sec, .plp, .rti, .alr,
      .anc, .arr, .axs, .dcp, .isc, .rla, .rra, .slo, .sre]) ∧
    (t.cpu.z = s.cpu.z ∨ i.mnemonic ∈ nz) ∧ (t.cpu.n = s.cpu.n ∨ i.mnemonic ∈ nz) ∧
    (t.cpu.v = s.cpu.v ∨ i.mnemonic ∈ [.adc, .sbc, .bit, .clv, .plp, .rti, .arr, .isc, .rra]) ∧
    (t.cpu.i = s.cpu.i ∨ i.mnemonic ∈ [.cli, .sei, .plp, .rti, .brk]) ∧
    (t.cpu.d = s.cpu.d ∨ i.mnemonic ∈ [.cld, .sed, .plp, .rti])

/-- The frame of every instruction that stores nothing (all but the stores, the read-modify-writes on memory and the pushes of
PHA, PHP, JSR, BRK): every byte of every memory, the DMA halt, the pending events, the crash and the cycle count stay
(20_memory.md R216: no other access). -/
def Obligations.NoStoreFrame : Prop :=
  ∀ (i : Instr) (s t : State), exec i s = .next t →
    i.mnemonic ∉ [.sta, .stx, .sty, .sax, .inc, .dec, .dcp, .isc, .rla, .rra, .slo, .sre, .pha, .php, .jsr, .brk] →
    (i.mnemonic ∈ [.asl, .lsr, .rol, .ror] → i.operand = .acc) →
      (∀ l, t.byteAt l = s.byteAt l) ∧ t.halt = s.halt ∧ t.nmiPending = s.nmiPending ∧ t.resetRequest = s.resetRequest ∧
        t.crashed = s.crashed ∧ t.cpuCycles = s.cpuCycles ∧ t.params = s.params

/-- The frame of STA, STX, STY, SAX: every register and flag stays, and every location the write at the effective address
does not reach. Only a write of 0x4014 changes the halt, by 513; no store touches RESET, the crash or the cycle count. -/
def Obligations.StoreFrame : Prop :=
  ∀ (i : Instr) (s t : State) (m : MemMode), i.mnemonic ∈ [.sta, .stx, .sty, .sax] → i.operand = .mem m →
    exec i s = .next t →
      let r := s.resolve m
      (∀ l, r.st.writesAt r.ea l = false → t.byteAt l = s.byteAt l) ∧ t.cpu = s.cpu ∧
        t.halt = s.halt + (if r.ea = 0x4014 then 513 else 0) ∧ t.resetRequest = s.resetRequest ∧ t.crashed = s.crashed ∧
        t.cpuCycles = s.cpuCycles ∧ t.params = s.params

/-- The frame of the read-modify-writes on memory (20_memory.md R216): every location that neither of the two writes reaches
stays; X, Y, SP, PC, I and D stay; two writes of 0x4014 halt for 1026 cycles (60_exceptions.md R851). -/
def Obligations.ModifyFrame : Prop :=
  ∀ (i : Instr) (s t : State) (m : MemMode),
    i.mnemonic ∈ [.inc, .dec, .asl, .lsr, .rol, .ror, .dcp, .isc, .rla, .rra, .slo, .sre] → i.operand = .mem m →
    exec i s = .next t →
      let r := s.resolve m
      let b := r.st.busRead r.ea
      let u := b.2.busWrite r.ea b.1 false
      (∀ l, b.2.writesAt r.ea l = false → u.writesAt r.ea l = false → t.byteAt l = s.byteAt l) ∧
        t.cpu.x = s.cpu.x ∧ t.cpu.y = s.cpu.y ∧ t.cpu.sp = s.cpu.sp ∧ t.cpu.pc = s.cpu.pc ∧ t.cpu.i = s.cpu.i ∧
        t.cpu.d = s.cpu.d ∧ t.halt = s.halt + (if r.ea = 0x4014 then 1026 else 0) ∧ t.resetRequest = s.resetRequest ∧
        t.crashed = s.crashed ∧ t.cpuCycles = s.cpuCycles ∧ t.params = s.params

/-- The frame of PHA, PHP (one byte), JSR (two) and BRK (three): only the stack bytes below SP change (10_state.md R104, R105;
60_exceptions.md R827); A, X, Y, C, Z, V, N and D stay. -/
def Obligations.PushFrame : Prop :=
  ∀ (i : Instr) (s t : State), i.mnemonic ∈ [.pha, .php, .jsr, .brk] → exec i s = .next t →
    let count := match i.mnemonic with
      | .jsr => 2
      | .brk => 3
      | _ => 1
    (∀ l, (∀ k, k < count → l ≠ .ram (0x100 + (s.cpu.sp - BitVec.ofNat 8 k).toNat)) → t.byteAt l = s.byteAt l) ∧
      t.cpu.sp = s.cpu.sp - BitVec.ofNat 8 count ∧ t.cpu.a = s.cpu.a ∧ t.cpu.x = s.cpu.x ∧ t.cpu.y = s.cpu.y ∧
      t.cpu.c = s.cpu.c ∧ t.cpu.z = s.cpu.z ∧ t.cpu.v = s.cpu.v ∧ t.cpu.n = s.cpu.n ∧ t.cpu.d = s.cpu.d ∧
      t.halt = s.halt ∧ t.nmiPending = s.nmiPending ∧ t.resetRequest = s.resetRequest ∧ t.crashed = s.crashed ∧
      t.cpuCycles = s.cpuCycles

/-- 40_addressing.md R418: the base cycles of every instruction, by its mnemonic and mode, as the encodings of
41_load_store_transfer.md to 46_unofficial.md give them (`base_cycles` of the opcode table); every mnemonic is in one of the
lists. 70_reset_and_hazards.md R1341: an instruction takes 2 to 8 cycles; the page-cross cycle and the branch cycles come on
top of the base cycles (R417). -/
def Obligations.CycleBound : Prop :=
  (∀ i : Instr,
    let among := fun (ms : List Mnemonic) (cycles : List (Mode × Nat)) =>
      i.mnemonic ∈ ms → (i.operand.mode, i.baseCycles) ∈ cycles
    among [.lda, .ldx, .ldy, .lax, .adc, .sbc, .cmp, .cpx, .cpy, .and, .ora, .eor, .bit, .ign, .skb, .alr, .anc, .arr, .axs]
      [(.imm, 2), (.zp, 3), (.zpx, 4), (.zpy, 4), (.abs, 4), (.absx, 4), (.absy, 4), (.indx, 6), (.indy, 5)] ∧
    among [.sta, .stx, .sty, .sax]
      [(.zp, 3), (.zpx, 4), (.zpy, 4), (.abs, 4), (.absx, 5), (.absy, 5), (.indx, 6), (.indy, 6)] ∧
    among [.inc, .dec, .asl, .lsr, .rol, .ror, .dcp, .isc, .rla, .rra, .slo, .sre]
      [(.acc, 2), (.zp, 5), (.zpx, 6), (.abs, 6), (.absx, 7), (.absy, 7), (.indx, 8), (.indy, 8)] ∧
    among [.tax, .tay, .tsx, .txa, .txs, .tya, .inx, .iny, .dex, .dey, .clc, .cld, .cli, .clv, .sec, .sed, .sei, .nop]
      [(.imp, 2)] ∧
    among [.bcc, .bcs, .beq, .bmi, .bne, .bpl, .bvc, .bvs] [(.rel, 2)] ∧
    among [.pha, .php] [(.imp, 3)] ∧ among [.pla, .plp] [(.imp, 4)] ∧ among [.jmp] [(.abs, 3), (.ind, 5)] ∧
    among [.jsr] [(.abs, 6)] ∧ among [.rts, .rti] [(.imp, 6)] ∧ among [.brk] [(.imp, 7)]) ∧
  ∀ (i : Instr) (s t : State), exec i s = .next t →
    s.stepCycles + i.baseCycles ≤ t.stepCycles ∧ t.stepCycles ≤ s.stepCycles + i.baseCycles + 2 ∧
      s.stepCycles + 2 ≤ t.stepCycles ∧ t.stepCycles ≤ s.stepCycles + 8

/-! ## The gate, exceptions and the step -/

/-- 60_exceptions.md R820: at most one event, RESET before NMI before IRQ, seven cycles, IRQ only if I = 0; the IRQ line is the
frame IRQ, the DMC IRQ or the loaded mapper's line (R821), which is MMC3's `irq_pending`, MMC5's `irq_pending and irq_enable`
and 0 for every other mapper (63_mappers.md R1123); a step opens the gate with its cycle count at 0 (20_memory.md R250). -/
def Obligations.GatePriority : Prop :=
  ∀ s : State,
    (s.resetRequest = true → s.gate = s.doReset.addCycles 7) ∧
    (s.resetRequest = false → s.nmiPending = true → s.gate = s.doNmi.addCycles 7) ∧
    (s.resetRequest = false → s.nmiPending = false → s.irqLine = true → s.cpu.i = false → s.gate = s.doIrq.addCycles 7) ∧
    (s.resetRequest = false → s.nmiPending = false → (s.irqLine = false ∨ s.cpu.i = true) → s.gate = s) ∧
    (∀ c, s.cart = some c → s.irqLine = (s.apu.frame.irq || s.apu.dmc.irq ||
      match c.mapper with
      | .mmc3 r => r.irqPending
      | .mmc5 r => r.irqPending && r.irqEnable
      | _ => false)) ∧
    s.openGate = State.gate { s with stepCycles := 0 }

/-- 60_exceptions.md R822: RESET clears the request, the pending NMI, the halt and the crash, sets I and reads PC from 0xFFFC; it
writes no other register and pushes nothing. -/
def Obligations.ResetEntry : Prop :=
  ∀ s : State,
    let l := State.busRead { s with resetRequest := false, nmiPending := false, halt := 0, crashed := none } 0xFFFC
    let h := l.2.busRead 0xFFFD
    s.doReset = { h.2 with cpu := { s.cpu with i := true, pc := h.1 ++ l.1 } } ∧
      s.doReset.resetRequest = false ∧ s.doReset.nmiPending = false ∧ s.doReset.halt = 0 ∧ s.doReset.crashed = none ∧
      ∀ k, s.doReset.byteAt k = s.byteAt k

/-- 60_exceptions.md R823–R825, R827: NMI and IRQ store PC, high byte first, then the flags with bit 5 = 1 and B = 0, in the
stack page of RAM, set I and read PC from their vector; nothing else changes, but NMI clears its pending bit. -/
def Obligations.InterruptEntry : Prop :=
  ∀ s : State,
    let status := flagBit s.cpu.n 7 ||| flagBit s.cpu.v 6 ||| 0x20 ||| flagBit s.cpu.d 3 ||| flagBit s.cpu.i 2 |||
      flagBit s.cpu.z 1 ||| flagBit s.cpu.c 0
    let pushed := { s with ram := ((s.ram.write (0x100 + s.cpu.sp.toNat) (s.cpu.pc.extractLsb' 8 8)).write
      (0x100 + (s.cpu.sp - 1).toNat) (s.cpu.pc.extractLsb' 0 8)).write (0x100 + (s.cpu.sp - 2).toNat) status }
    let entered := fun (t : State) (low high : Word) =>
      let l := t.busRead low
      let h := l.2.busRead high
      { h.2 with cpu := { s.cpu with sp := s.cpu.sp - 3, i := true, pc := h.1 ++ l.1 } }
    s.doNmi = entered { pushed with nmiPending := false } 0xFFFA 0xFFFB ∧ s.doIrq = entered pushed 0xFFFE 0xFFFF

/-- RTI undoes an entry (60_exceptions.md R825, R835): after an entry that pushed `ret`, an RTI that finds SP and the stack
bytes as the entry left them resumes at `ret` with the six flags and SP of before the entry. `s.ram.wf` is part of the
invariant. -/
def Obligations.ReturnUndoesEntry : Prop :=
  ∀ (s u : State) (vector ret : Word) (b : Bool), s.ram.wf = true →
    u.ram = (s.enter vector ret b).ram → u.cpu.sp = (s.enter vector ret b).cpu.sp →
      u.leave = { u with cpu := { u.cpu with
        pc := ret, sp := s.cpu.sp, c := s.cpu.c, z := s.cpu.z, i := s.cpu.i, d := s.cpu.d, v := s.cpu.v, n := s.cpu.n } }

/-- 60_exceptions.md R841: while crashed and no RESET is requested, a step changes nothing. That the answer is a next state is
the model's choice (log 10). -/
def Obligations.FrozenStep : Prop :=
  ∀ s : State, s.cart.isSome = true → s.crashed.isSome = true → s.resetRequest = false → step s = .next s

/-- 60_exceptions.md R850, R832: the step after a DMA runs no gate and no instruction; it clears the halt, counts its cycles and
advances the APU by them and the PPU by three times as many; no CPU register changes. -/
def Obligations.HaltStep : Prop :=
  ∀ s : State, s.cart.isSome = true → s.crashed = none → s.resetRequest = false → 0 < s.halt →
    ∃ t, step s = .next t ∧ t = State.ppuAdvance (3 * s.halt) (State.apuAdvance s.halt
        { s with halt := 0, stepCycles := s.halt, cpuCycles := s.cpuCycles + s.halt }) ∧
      t.cpu = s.cpu ∧ t.cpuCycles = s.cpuCycles + s.halt ∧ t.halt = 0 ∧ t.ram = s.ram

/-- 61_ppu.md R918, for a page of RAM: after a write of 0x4014, entry oamaddr + i of OAM holds byte i of the page, oamaddr and
every other memory stay, and the CPU owes 513 cycles. `oam.wf` is part of the invariant. -/
def Obligations.OamDma : Prop :=
  ∀ (s : State) (d i : Byte) (k : Bool), s.ppu.oam.wf = true → d.toNat < 0x20 →
    let t := s.busWrite 0x4014 d k
    t.ppu.oam.read (s.ppu.oamAddr + i).toNat = s.ram.read ((d.toNat * 256 + i.toNat) % 2048) ∧
      t.ppu.oamAddr = s.ppu.oamAddr ∧ t.halt = s.halt + 513 ∧ t.cpu = s.cpu ∧
      ∀ l, l.inOam = false → t.byteAt l = s.byteAt l

/-! ## Invariants -/

/-- Every step keeps the invariant of `Sys2Proof.Safety`: every memory canonical and of its size, the PPU's position in the
frame, at most eight sprites in secondary OAM, the LFSR not 0, the DMC's bit count, the frame counter in its sequence, the
sample ring within its capacity, MMC1's count of collected writes (20_memory.md R203; 61_ppu.md R900, R906, R931; 62_apu_io.md
R1021, R1051, R1061, R1094; 63_mappers.md R1131). -/
def Obligations.StepKeepsInv : Prop :=
  ∀ s t : State, s.Inv → step s = .next t → t.Inv

/-- The invariant holds at reset. -/
def Obligations.ResetHasInv : Prop := State.reset.Inv

/-- A block that powers on with an image that loads has the invariant, whatever the OPEN power-on contents, provided they are
canonical and of their memories' sizes (63_mappers.md R1100–R1104; 70_reset_and_hazards.md R1300). -/
def Obligations.LoadedHasInv : Prop :=
  ∀ (p : PowerOn) (init : CartInit) (params : Params) (image : List Byte) (s : State),
    p.ram.Within 2048 → p.ciram.Within 2048 → p.palette.Within 32 → p.oam.Within 256 →
    (∀ c, Cart.parse init image = .ok c → init.prgRam.Within c.mapper.prgRamSize) → init.chrRam.Within 8192 →
    init.vram.Within 2048 → State.loadImage p init params image = .ok s → s.Inv

/-- No step changes the cartridge's PRG-ROM, its CHR-ROM, its sizes or which mapper it has (20_memory.md R246; 63_mappers.md
R1104, R1122): all the writes of a program, and all the devices' accesses, leave them alone. -/
def Obligations.RomIsConstant : Prop :=
  ∀ (s t : State) (c : Cart), step s = .next t → s.cart = some c → ∃ d, t.cart = some d ∧
    d.prg = c.prg ∧ d.prgSize = c.prgSize ∧ d.chrSize = c.chrSize ∧ d.chrIsRam = c.chrIsRam ∧
    d.mirrorHint = c.mirrorHint ∧ d.mapper.number = c.mapper.number ∧ d.mapper.caps = c.mapper.caps ∧
    (c.chrIsRam = false → d.chr = c.chr)

/-! ## The bus -/

/-- 20_memory.md R203: CPU RAM is mirrored four times and has no side effect; a read after a write gives the byte written
through any of the four addresses, and every other byte is as before. `s.ram.wf` is part of the invariant. -/
def Obligations.RamMirrored : Prop :=
  ∀ (s : State) (a b : Word) (v : Byte) (k : Bool), s.ram.wf = true → a.toNat < 0x2000 → b.toNat < 0x2000 →
    s.busRead b = (s.ram.read (b.toNat % 0x800), s) ∧
    s.busWrite a v k = { s with ram := s.ram.write (a.toNat % 0x800) v } ∧
    ((s.busWrite a v k).busRead b).1 = if a.toNat % 0x800 = b.toNat % 0x800 then v else (s.busRead b).1

/-- 10_state.md R104–R106 and R112–R114: push and pull through the bus at 0x0100 | SP with SP modulo 256; the status image, the
pushed byte, and loading it back, which ignores bits 4 and 5. -/
def Obligations.StackAndStatus : Prop :=
  (∀ (s : State) (v : Byte),
    (let t := s.busWrite (0x0100 ||| s.cpu.sp.setWidth 16) v false
     s.push v = { t with cpu := { s.cpu with sp := s.cpu.sp - 1 } }) ∧
    s.pull = State.busRead { s with cpu := { s.cpu with sp := s.cpu.sp + 1 } }
      (0x0100 ||| (s.cpu.sp + 1).setWidth 16) ∧
    (s.cpu.sp = 0x00 → (s.push v).cpu.sp = 0xFF) ∧ (s.cpu.sp = 0xFF → s.pull.2.cpu.sp = 0x00)) ∧
  ∀ (r q : Cpu) (b : Bool),
    r.status.toNat = 128 * r.n.toNat + 64 * r.v.toNat + 32 + 8 * r.d.toNat + 4 * r.i.toNat + 2 * r.z.toNat + r.c.toNat ∧
    r.pushedStatus b = r.status ||| 0x20 ||| (if b then 0x10 else 0) ∧
    q.loadStatus (r.pushedStatus b) = { q with c := r.c, z := r.z, i := r.i, d := r.d, v := r.v, n := r.n } ∧
    ∀ p : Byte, q.loadStatus p = { q with
      c := p.getLsbD 0, z := p.getLsbD 1, i := p.getLsbD 2, d := p.getLsbD 3, v := p.getLsbD 6, n := p.getLsbD 7 } ∧
      q.loadStatus p = q.loadStatus (p ^^^ 0x30)

/-! ## The PPU -/

/-- 61_ppu.md R912–R917, R919–R921, through every mirror `a` of the register: what a read returns and changes, what a write
changes. What nothing drives is the free value `OpenBus`: the five low bits of PPUSTATUS and the write-only registers. That
a read of it is the value numbered `s.draws` and counts one draw is the model's choice (log 1). -/
def Obligations.PpuRegisters : Prop :=
  ∀ (s : State) (a : Word) (d : Byte) (k : Bool), 0x2000 ≤ a.toNat → a.toNat < 0x4000 →
    let p := s.ppu
    let n := a.toNat % 8
    let set := fun q : Ppu => { s with ppu := q }
    let d15 : BitVec 15 := d.setWidth 15
    let next := p.v + (if p.ctrl.getLsbD 2 then 32 else 1)
    let at14 : Word := p.v.setWidth 16 &&& 0x3FFF
    (n = 2 → s.busRead a = (flagBit p.vblank 7 ||| flagBit p.spr0Hit 6 ||| flagBit p.overflow 5 |||
        (Config.openBus s.draws &&& 0x1F), { s with ppu := { p with vblank := false, w := false }, draws := s.draws + 1 })) ∧
    (n = 2 → s.busWrite a d k = s) ∧
    (n ∈ [0, 1, 3, 5, 6] → s.busRead a = (Config.openBus s.draws, { s with draws := s.draws + 1 })) ∧
    s.busRead 0x4014 = (Config.openBus s.draws, { s with draws := s.draws + 1 }) ∧
    (n = 1 → s.busWrite a d k = set { p with mask := d }) ∧
    (n = 3 → s.busWrite a d k = set { p with oamAddr := d }) ∧
    (n = 4 → s.busRead a = (p.oam.read p.oamAddr.toNat, s) ∧
      s.busWrite a d k = set { p with oam := p.oam.write p.oamAddr.toNat d, oamAddr := p.oamAddr + 1 }) ∧
    (n = 5 → s.busWrite a d k = set (if p.w
      then { p with t := (p.t &&& ~~~(0x73E0 : BitVec 15)) ||| ((d15 &&& 7) <<< 12) ||| ((d15 >>> 3) <<< 5), w := false }
      else { p with t := (p.t &&& ~~~(0x001F : BitVec 15)) ||| (d15 >>> 3), x := d.setWidth 3, w := true })) ∧
    (n = 6 → s.busWrite a d k = set (if p.w
      then { p with t := (p.t &&& 0x7F00) ||| d15, v := (p.t &&& 0x7F00) ||| d15, w := false }
      else { p with t := (p.t &&& 0x00FF) ||| ((d15 &&& 0x3F) <<< 8), w := true })) ∧
    (n = 7 → (at14.toNat < 0x3F00 →
        let r := s.ppuBusRead at14
        s.busRead a = (p.readBuffer, { r.2 with ppu := { p with readBuffer := r.1, v := next } })) ∧
      (0x3F00 ≤ at14.toNat →
        let r := s.ppuBusRead at14
        let b := r.2.ppuBusRead (at14 - 0x1000)
        s.busRead a = (r.1, { b.2 with ppu := { p with readBuffer := b.1, v := next } })) ∧
      let u := s.ppuBusWrite at14 d
      s.busWrite a d k = { u with ppu := { u.ppu with v := next } }) ∧
    (n = 0 → s.busWrite a d k = { s with
      ppu := { p with ctrl := d, t := (p.t &&& ~~~(0x0C00 : BitVec 15)) ||| ((d15 &&& 3) <<< 10) }
      nmiPending := s.nmiPending ||
        (s.params.nmiOnLateEnable && !p.ctrl.getLsbD 7 && d.getLsbD 7 && p.vblank) })

/-- 61_ppu.md R935 over a whole dot: VBlank and NMI at scanline 241 dot 1, the three flags cleared at scanline 261 dot 1, and
neither VBlank nor the pending NMI touched at any other dot. -/
def Obligations.VBlankDot : Prop :=
  ∀ s : State,
    let t := s.ppuTick
    (s.ppu.scanline = 241 → s.ppu.dot = 1 →
      t.ppu.vblank = true ∧ t.nmiPending = (s.nmiPending || s.ppu.ctrl.getLsbD 7)) ∧
    (s.ppu.scanline = 261 → s.ppu.dot = 1 → t.ppu.vblank = false ∧ t.ppu.spr0Hit = false ∧ t.ppu.overflow = false ∧
      t.nmiPending = s.nmiPending) ∧
    (¬((s.ppu.scanline = 241 ∨ s.ppu.scanline = 261) ∧ s.ppu.dot = 1) →
      t.ppu.vblank = s.ppu.vblank ∧ t.nmiPending = s.nmiPending)

/-- 61_ppu.md R931: the position after a dot, from any position inside a frame (which `State.Inv` says every reachable one is):
341 dots a scanline, 262 scanlines, dot 340 of scanline 261 skipped on an odd frame with the background on; the frame completes
and the parity flips at the end of scanline 261 only, where the frame the host is handed becomes what the framebuffer holds at
that dot (20_memory.md R251). That the frame is handed over as a copy kept until the next frame ends, and that completion
stays until the host takes the frame, so that both are unchanged at every other dot, is the model's choice (log 20). -/
def Obligations.PositionAdvances : Prop :=
  ∀ s : State, s.ppu.scanline ≤ 261 → s.ppu.dot ≤ 340 →
    let t := s.ppuTick
    let ends := s.ppu.dot = 340 ∨
      (s.ppu.scanline = 261 ∧ s.ppu.dot = 339 ∧ s.ppu.oddFrame = true ∧ s.ppu.mask.getLsbD 3 = true)
    (¬ends → t.ppu.dot = s.ppu.dot + 1 ∧ t.ppu.scanline = s.ppu.scanline) ∧
    (ends → t.ppu.dot = 0 ∧ t.ppu.scanline = (s.ppu.scanline + 1) % 262) ∧
    (ends ∧ s.ppu.scanline = 261 → t.ppu.oddFrame = !s.ppu.oddFrame ∧ t.ppu.frameComplete = true ∧
      t.takeFrame.1 = s.ppu.framebuffer ∧ t.ppu.framebuffer = s.ppu.framebuffer) ∧
    (¬(ends ∧ s.ppu.scanline = 261) → t.ppu.oddFrame = s.ppu.oddFrame ∧ t.ppu.frameComplete = s.ppu.frameComplete ∧
      t.takeFrame.1 = s.takeFrame.1)

/-- The scroll functions of 61_ppu.md R942–R945 by the fields of `v`: coarse X (bits 4–0), coarse Y (bits 9–5), the two
nametable bits (10 and 11) and fine Y (bits 14–12). -/
def Obligations.ScrollFields : Prop :=
  let cx := fun v : BitVec 15 => v.toNat % 32
  let cy := fun v : BitVec 15 => v.toNat / 32 % 32
  let nx := fun v : BitVec 15 => v.toNat / 1024 % 2
  let ny := fun v : BitVec 15 => v.toNat / 2048 % 2
  let fy := fun v : BitVec 15 => v.toNat / 4096
  ∀ v t : BitVec 15,
    (cx (incCoarseX v) = (cx v + 1) % 32 ∧ nx (incCoarseX v) = (if cx v = 31 then 1 - nx v else nx v) ∧
      cy (incCoarseX v) = cy v ∧ ny (incCoarseX v) = ny v ∧ fy (incCoarseX v) = fy v) ∧
    (fy (incY v) = (fy v + 1) % 8 ∧ cx (incY v) = cx v ∧ nx (incY v) = nx v ∧
      cy (incY v) = (if fy v < 7 then cy v else if cy v = 29 ∨ cy v = 31 then 0 else cy v + 1) ∧
      ny (incY v) = (if fy v = 7 ∧ cy v = 29 then 1 - ny v else ny v)) ∧
    (cx (copyHorizontal v t) = cx t ∧ nx (copyHorizontal v t) = nx t ∧ cy (copyHorizontal v t) = cy v ∧
      ny (copyHorizontal v t) = ny v ∧ fy (copyHorizontal v t) = fy v) ∧
    (cx (copyVertical v t) = cx v ∧ nx (copyVertical v t) = nx v ∧ cy (copyVertical v t) = cy t ∧
      ny (copyVertical v t) = ny t ∧ fy (copyVertical v t) = fy t)

/-- 20_memory.md R233, on the PPU bus: a palette write stores six bits at the folded index, and a read through any alias of
that index gives them back, bits 7–6 zero. The entries 0x10, 0x14, 0x18, 0x1C are those of 0x00, 0x04, 0x08, 0x0C. -/
def Obligations.PaletteMirrored : Prop :=
  ∀ (s : State) (a b : Word) (v : Byte), s.ppu.palette.wf = true →
    0x3F00 ≤ a.toNat → a.toNat < 0x4000 → 0x3F00 ≤ b.toNat → b.toNat < 0x4000 →
    let fold := fun n : Nat => if n % 32 ∈ [0x10, 0x14, 0x18, 0x1C] then n % 32 - 0x10 else n % 32
    let r := (s.ppuBusWrite a v).ppuBusRead b
    (fold a.toNat = fold b.toNat → r.1 = v &&& 0x3F) ∧ (fold a.toNat ≠ fold b.toNat → r.1 = (s.ppuBusRead b).1)

/-! ## The APU and the controllers -/

/-- 62_apu_io.md R1070, R1071 and R1052: the status read, which clears the frame IRQ only (bit 5 is the free value `OpenBus`;
that it is the value numbered `s.draws` and counts one draw is the model's choice, log 1); the channel enables; the frame-counter
control, whose quarter and half clocks are those of R1051. -/
def Obligations.ApuRegisters : Prop :=
  ∀ (s : State) (d : Byte) (k : Bool),
    let u := s.apu
    (s.busRead 0x4015 = (flagBit u.dmc.irq 7 ||| flagBit u.frame.irq 6 ||| (Config.openBus s.draws &&& 0x20) |||
        flagBit (decide (0 < u.dmc.remaining.toNat)) 4 ||| flagBit (decide (0 < u.noise.length.toNat)) 3 |||
        flagBit (decide (0 < u.tri.length.toNat)) 2 ||| flagBit (decide (0 < u.p2.length.toNat)) 1 |||
        flagBit (decide (0 < u.p1.length.toNat)) 0,
      { s with apu := { u with frame := { u.frame with irq := false } }, draws := s.draws + 1 })) ∧
    (let w := (s.busWrite 0x4015 d k).apu
     s.busWrite 0x4015 d k = { s with apu := w } ∧
     w.p1 = { u.p1 with enabled := d.getLsbD 0, length := if d.getLsbD 0 then u.p1.length else 0 } ∧
     w.p2 = { u.p2 with enabled := d.getLsbD 1, length := if d.getLsbD 1 then u.p2.length else 0 } ∧
     w.tri = { u.tri with enabled := d.getLsbD 2, length := if d.getLsbD 2 then u.tri.length else 0 } ∧
     w.noise = { u.noise with enabled := d.getLsbD 3, length := if d.getLsbD 3 then u.noise.length else 0 } ∧
     w.dmc = { u.dmc with
       remaining := if d.getLsbD 4 = false then 0 else if u.dmc.remaining = 0
         then BitVec.ofNat 12 (16 * u.dmc.lenReg.toNat + 1) else u.dmc.remaining
       curAddr := if d.getLsbD 4 = true ∧ u.dmc.remaining = 0
         then BitVec.ofNat 16 (0xC000 + 64 * u.dmc.addrReg.toNat) else u.dmc.curAddr
       irq := false } ∧
     w.frame = u.frame ∧ w.parity = u.parity ∧ w.out = u.out) ∧
    (let q := { u with frame := {
       mode := d.getLsbD 7, irqInhibit := d.getLsbD 6, irq := u.frame.irq && !d.getLsbD 6, cycle := 0 } }
     s.busWrite 0x4017 d k = { s with apu := if d.getLsbD 7 then q.quarter.half else q })

/-- The frame sequencer (62_apu_io.md R1050, R1051): where its count goes; that its IRQ is raised at step 4 of the 4-step
sequence alone, unless inhibited; that it clocks a quarter at 7457 and 22371, a quarter and a half at 14913 and at 29829 (4-step)
or 37281 (5-step), and at every other count no unit. What a quarter clock does (envelopes R1005, linear counter R1011) and what
a half clock does (length counters R1007, sweep units R1006). -/
def Obligations.FrameSequencer : Prop :=
  ∀ u : Apu,
    let n := u.frame.cycle + 1
    let t := u.frameTick
    let channels := fun q : Apu => t.p1 = q.p1 ∧ t.p2 = q.p2 ∧ t.tri = q.tri ∧ t.noise = q.noise
    (t.frame.cycle = (if n = (if u.frame.mode then 37282 else 29830) then 0 else n) ∧
      t.frame.irq = (u.frame.irq || (!u.frame.mode && n == 29829 && !u.frame.irqInhibit)) ∧
      t.frame.mode = u.frame.mode ∧ t.frame.irqInhibit = u.frame.irqInhibit ∧ t.dmc = u.dmc) ∧
    (n ∈ [7457, 22371] → channels u.quarter) ∧
    (n ∈ [14913, if u.frame.mode then 37281 else 29829] → channels u.quarter.half) ∧
    (n ∉ [7457, 14913, 22371, if u.frame.mode then 37281 else 29829] → channels u) ∧
    (n ∉ [14913, if u.frame.mode then 37281 else 29829] →
      t.p1.length = u.p1.length ∧ t.p2.length = u.p2.length ∧ t.tri.length = u.tri.length ∧
        t.noise.length = u.noise.length ∧ t.p1.period = u.p1.period ∧ t.p2.period = u.p2.period) ∧
    (let env := fun (e : Envelope) (vol : BitVec 4) (loop : Bool) => (
       if e.start = true then { start := false, div := vol, decay := 15 }
       else if e.div = 0 then
         { e with div := vol, decay := if 0 < e.decay.toNat then e.decay - 1 else if loop = true then 15 else 0 }
       else { e with div := e.div - 1 } : Envelope)
     u.quarter = { u with
       p1 := { u.p1 with env := env u.p1.env u.p1.vol u.p1.halt }
       p2 := { u.p2 with env := env u.p2.env u.p2.vol u.p2.halt }
       noise := { u.noise with env := env u.noise.env u.noise.vol u.noise.halt }
       tri := { u.tri with
         lin := if u.tri.linReload = true then u.tri.linReloadVal else if 0 < u.tri.lin.toNat then u.tri.lin - 1 else 0
         linReload := u.tri.control && u.tri.linReload } }) ∧
    (let len := fun (l : Byte) (halt : Bool) => if 0 < l.toNat ∧ halt = false then l - 1 else l
     let sweep := fun (p : Pulse) (one : Int) =>
       let c : Int := (p.period.toNat / 2 ^ p.swShift.toNat : Nat)
       let target : Int := if p.swNeg = true then p.period.toNat - c - one else p.period.toNat + c
       let muted := p.period.toNat < 8 ∨ 0x7FF < target
       ({ p with
         period := if p.swDiv = 0 ∧ p.swEn = true ∧ p.swShift ≠ 0 ∧ ¬muted then BitVec.ofInt 11 target else p.period
         swDiv := if p.swDiv = 0 ∨ p.swReload = true then p.swPeriod else p.swDiv - 1
         swReload := false } : Pulse)
     u.half = { u with
       p1 := { sweep u.p1 1 with length := len u.p1.length u.p1.halt }
       p2 := { sweep u.p2 0 with length := len u.p2.length u.p2.halt }
       tri := { u.tri with length := len u.tri.length u.tri.control }
       noise := { u.noise with length := len u.noise.length u.noise.halt } })

/-- 62_apu_io.md R1091: the mix of the real-valued formulas (no rounding: `MixNumerics` the identity) lies in [0, 1) for every
state of the channels. -/
def Obligations.MixInRange : Prop := ∀ u : Apu, 0 ≤ u.mix id ∧ u.mix id < 1

/-- 62_apu_io.md R1080, R1081, for port 1 (`a` = 0x4016) and port 2 (`a` = 0x4017): after the strobe is raised and lowered, read
number k + 1 of the port gives button k in bit 0, for the eight buttons, then the free values `CtrlTail`, and leaves the other
port alone; while the strobe is 1 every read gives button A. -/
def Obligations.ControllerReads : Prop :=
  ∀ (s : State) (a : Word) (up down : Byte) (j k : Bool), up.getLsbD 0 = true → down.getLsbD 0 = false →
    a = 0x4016 ∨ a = 0x4017 →
      let port := fun p : Pads => if a = 0x4016 then p.pad1 else p.pad2
      let other := fun p : Pads => if a = 0x4016 then p.pad2 else p.pad1
      let raised := s.busWrite 0x4016 up j
      let t := raised.busWrite 0x4016 down k
      let after := fun n : Nat => Nat.repeat (fun u : State => (u.busRead a).2) n t
      ((raised.busRead a).1.getLsbD 0 = (port s.pads).buttons.getLsbD 0 ∧ (raised.busRead a).2.pads = raised.pads) ∧
      ∀ n, ((after n).busRead a).1.getLsbD 0 = (if n < 8 then (port s.pads).buttons.getLsbD n else Config.ctrlTail n) ∧
        other (after n).pads = other t.pads

/-! ## Mappers -/

/-- 63_mappers.md R1132: the consecutive write is ignored, bit 7 resets, and five writes of bits d0 to d4, in that order, latch
them into the register that address bits 14–13 of the fifth write select, leaving the shift register empty. -/
def Obligations.Mmc1Serial : Prop :=
  (∀ (r : Mmc1) (a : Word) (d : Byte), r.write a d true = r ∧
    (d.getLsbD 7 = true → r.write a d false = { r with sr := 0, srN := 0, control := r.control ||| 0x0C })) ∧
  ∀ (r : Mmc1) (a : Word) (d0 d1 d2 d3 d4 : Byte) (x0 x1 x2 x3 : Word), r.sr = 0 → r.srN = 0 →
    (∀ d ∈ [d0, d1, d2, d3, d4], d.getLsbD 7 = false) →
    let t := ((((r.write x0 d0 false).write x1 d1 false).write x2 d2 false).write x3 d3 false).write a d4 false
    let value : BitVec 5 := BitVec.ofNat 5
      (d0.toNat % 2 + 2 * (d1.toNat % 2) + 4 * (d2.toNat % 2) + 8 * (d3.toNat % 2) + 16 * (d4.toNat % 2))
    (a.toNat / 8192 % 4 = 0 → t = { r with control := value }) ∧ (a.toNat / 8192 % 4 = 1 → t = { r with chr0 := value }) ∧
    (a.toNat / 8192 % 4 = 2 → t = { r with chr1 := value }) ∧ (a.toNat / 8192 % 4 = 3 → t = { r with prg := value })

/-- 63_mappers.md R1122, R1142, R1143, R1172–R1174, R1184: a callback whose capability is missing is skipped; MMC3's A12 filter
and scanline counter; on the CPU bus of a block with MMC5, what each address from 0x6000 on reaches, that a read of PRG-RAM
always gives its byte and changes nothing, that a write stores there only under the protect registers, and the two reads of the
multiplier, which change nothing. -/
def Obligations.MapperRules : Prop :=
  (∀ (s : State) (declared : Caps → Bool) (call : Mapper → Mapper),
    (∀ c, s.cart = some c → declared c.mapper.caps = false) → s.hook declared call = s) ∧
  (∀ r : Mmc3, r.notifyA12 false = { r with a12Low := r.a12Low + 1 } ∧
    (r.a12Low < 8 → r.notifyA12 true = { r with a12Low := 0 }) ∧
    (8 ≤ r.a12Low → r.notifyA12 true =
      let reload := r.irqCounter = 0 ∨ r.irqReload = true
      let counter := if reload then r.irqLatch else r.irqCounter - 1
      { r with
        irqCounter := counter, irqReload := false, a12Low := 0
        irqPending := r.irqPending || (counter == 0 && r.irqCounter != 0 && r.irqEnabled) })) ∧
  ∀ (s : State) (c : Cart) (r : Mmc5), s.cart = some c → c.mapper = .mmc5 r →
    (s.busRead 0x5205 = (BitVec.ofNat 8 (r.mulA.toNat * r.mulB.toNat), s) ∧
      s.busRead 0x5206 = (BitVec.ofNat 8 (r.mulA.toNat * r.mulB.toNat / 256), s)) ∧
    ∀ (a : Word) (d : Byte) (k : Bool), 0x6000 ≤ a.toNat →
      (∀ j, c.prgTarget a = .ram j →
        s.busRead a = (c.prgRam.read j, s) ∧
        (r.protect1 = 2 ∧ r.protect2 = 1 →
          c.cpuWrite a d k = { c with prgRam := c.prgRam.write j d } ∧
          s.busWrite a d k = { s with cart := some { c with prgRam := c.prgRam.write j d } }) ∧
        (¬(r.protect1 = 2 ∧ r.protect2 = 1) → c.cpuWrite a d k = c ∧ s.busWrite a d k = s)) ∧
      -- `target reg size start`: the register $5110 + reg maps the slot of `size` bytes at `start`.
      let target := fun (reg size start : Nat) =>
        let v := (r.prgReg.toList.getD (reg - 3) 0).toNat
        let bank := v % 128 / (size / 8192) * (size / 8192)
        let o := a.toNat - start
        if reg = 7 ∨ (reg ≠ 3 ∧ 128 ≤ v) then PrgTarget.rom ((bank * 8192 + o) % c.prgSize)
        else PrgTarget.ram ((bank % 8 * 8192 + o) % 65536)
      c.prgTarget a =
        if a.toNat < 0x8000 then target 3 8192 0x6000
        else if r.prgMode = 0 then target 7 32768 0x8000
        else if r.prgMode = 1 then (if a.toNat < 0xC000 then target 5 16384 0x8000 else target 7 16384 0xC000)
        else if r.prgMode = 2 ∧ a.toNat < 0xC000 then target 5 16384 0x8000
        else if a.toNat < 0xA000 then target 4 8192 0x8000
        else if a.toNat < 0xC000 then target 5 8192 0xA000
        else if a.toNat < 0xE000 then target 6 8192 0xC000
        else target 7 8192 0xE000

/-! ## Power-on and the host's reset -/

/-- The power-on values that 70_reset_and_hazards.md R1301 and 10_state.md R117 state outside the cartridge, field by field,
whatever the OPEN values, parameters and cartridge. The OPEN values are those of `p`. -/
def Obligations.PowerOnValues : Prop :=
  ∀ (p : PowerOn) (params : Params) (c : Option Cart),
    let s := State.powerOn p params c
    (s.cpu.i = true ∧ s.nmiPending = false ∧ s.halt = 0 ∧ s.crashed = none ∧ s.cpuCycles = 0 ∧ s.resetRequest = true) ∧
    (s.cpu.a = p.a ∧ s.cpu.x = p.x ∧ s.cpu.y = p.y ∧ s.cpu.sp = p.sp ∧ s.cpu.c = p.c ∧ s.cpu.z = p.z ∧ s.cpu.d = p.d ∧
      s.cpu.v = p.v ∧ s.cpu.n = p.n ∧ s.ram = p.ram ∧ s.ppu.ciram = p.ciram ∧ s.ppu.palette = p.palette ∧
      s.ppu.oam = p.oam) ∧
    (s.ppu.v = 0 ∧ s.ppu.t = 0 ∧ s.ppu.x = 0 ∧ s.ppu.w = false ∧ s.ppu.ctrl = 0 ∧ s.ppu.mask = 0 ∧ s.ppu.vblank = false ∧
      s.ppu.spr0Hit = false ∧ s.ppu.overflow = false ∧ s.ppu.oamAddr = 0 ∧ s.ppu.readBuffer = 0 ∧ s.ppu.scanline = 0 ∧
      s.ppu.dot = 0 ∧ s.ppu.oddFrame = false ∧ s.ppu.bg = ⟨0, 0, 0, 0, 0, 0, 0, 0⟩ ∧ s.ppu.secondary = [] ∧
      s.ppu.spr0InLine = false ∧ s.ppu.units = .replicate 8 ⟨0, 0, 0, 0, false⟩ ∧
      (∀ n, s.ppu.framebuffer.read n = 0) ∧ s.ppu.frameComplete = false) ∧
    (let pulse : Pulse := {
       enabled := false, duty := 0, halt := false, constVol := false, vol := 0, swEn := false, swPeriod := 0, swNeg := false,
       swShift := 0, swReload := false, swDiv := 0, period := 0, timer := 0, seq := 0, length := 0
       env := { start := false, div := 0, decay := 0 } }
     s.apu.p1 = pulse ∧ s.apu.p2 = pulse) ∧
    s.apu.tri = {
      enabled := false, control := false, linReloadVal := 0, lin := 0, linReload := false, period := 0, timer := 0, seq := 0
      length := 0 } ∧
    s.apu.noise = {
      enabled := false, halt := false, constVol := false, vol := 0, mode := false, periodIdx := 0, timer := 0, lfsr := 1
      length := 0, env := { start := false, div := 0, decay := 0 } } ∧
    s.apu.dmc = {
      irqEn := false, loop := false, rateIdx := 0, timer := 0, level := 0, addrReg := 0, lenReg := 0, curAddr := 0xC000
      remaining := 0, buffer := 0, bufferFull := false, shift := 0, bits := 8, silence := true, irq := false } ∧
    s.apu.frame = { mode := false, irqInhibit := false, irq := false, cycle := 0 } ∧ s.apu.parity = false ∧
    s.apu.out = { acc := 0, accN := 0, sampleClock := 0, dcX := 0, dcY := 0, ring := [] } ∧
    s.pads = ⟨⟨0, 0, 0⟩, ⟨0, 0, 0⟩, false⟩ ∧ s.cart = c

/-- 70_reset_and_hazards.md R1320, R1322–R1325: what the host's reset sets and what it keeps, and that a second one changes
nothing. -/
def Obligations.HostReset : Prop :=
  ∀ s : State,
    let t := s.hostReset
    t.ppu = { s.ppu with ctrl := 0, mask := 0, w := false, t := 0, x := 0, readBuffer := 0 } ∧
    t.apu = { s.apu with
      p1 := { s.apu.p1 with enabled := false, length := 0 }
      p2 := { s.apu.p2 with enabled := false, length := 0 }
      tri := { s.apu.tri with enabled := false, length := 0 }
      noise := { s.apu.noise with enabled := false, length := 0 }
      dmc := { s.apu.dmc with remaining := 0, irq := false }
      frame := { s.apu.frame with irq := false, cycle := 0 } } ∧
    t = { s with ppu := t.ppu, apu := t.apu, resetRequest := true } ∧ t.hostReset = t

/-- The power-on values of a loaded cartridge (63_mappers.md R1131, R1140, R1150–R1155, R1160, R1188; 70_reset_and_hazards.md
R1301): after a load that succeeds the block stands at power-on with a cartridge whose mapper registers are those the rules
give, and whose PRG-RAM and CHR-RAM are the OPEN contents. -/
def Obligations.LoadedMapperValues : Prop :=
  ∀ (p : PowerOn) (init : CartInit) (params : Params) (image : List Byte) (s : State),
    State.loadImage p init params image = .ok s → ∃ c, s = State.powerOn p params (some c) ∧
      c.prgRam = init.prgRam ∧ (c.chrIsRam = true → c.chr = init.chrRam) ∧
      match c.mapper with
      | .nrom => True
      | .mmc1 r => r = { sr := 0, srN := 0, control := 0x0C, chr0 := 0, chr1 := 0, prg := 0 }
      | .mmc3 r => r = {
          bankSelect := 0, r := .replicate 8 0, mirror := false, irqLatch := 0, irqCounter := 0, irqReload := false
          irqEnabled := false, irqPending := false, a12Low := 0 }
      | .mmc2 r | .mmc4 r => r = {
          prgBank := 0, chrFdLo := 0, chrFeLo := 0, chrFdHi := 0, chrFeHi := 0, mirror := false, latchLo := .fe
          latchHi := .fe }
      | .mmc5 r => r = {
          prgMode := 3, chrMode := 0, protect1 := 0, protect2 := 0, exramMode := 0, ntMap := 0, fillTile := 0, fillAttr := 0
          prgReg := #v[0, 0, 0, 0, 0xFF], chrA := .replicate 8 0, chrB := .replicate 4 0, chrUpper := 0, lastSet := .a
          split := .replicate 3 0, irqTarget := 0, irqEnable := false, irqPending := false, inFrame := false, line := 0
          mulA := 0, mulB := 0, exram := [], phase := .bg, lastNt := none, ntRun := 0, extByte := 0 }
      | .uxrom bank => bank = 0
      | .cnrom bank => bank = 0
      | .axrom bank screen => bank = 0 ∧ screen = false
      | .colorDreams bank chrBank => bank = 0 ∧ chrBank = 0
      | .bnrom bank => bank = 0
      | .gxrom bank chrBank => bank = 0 ∧ chrBank = 0
end

