-- ==== Sys2Proof/Laws/State.lean ====
section
/-! SUPPORT. What each register update leaves in each field: one lemma per field per update. -/

namespace Sys2Proof.Machine

/-! `State.setCpu` -/

@[simp] theorem State.setCpu_cpu (s : State) (r : Cpu) : (s.setCpu r).cpu = r := rfl
@[simp] theorem State.setCpu_nmiPending (s : State) (r : Cpu) : (s.setCpu r).nmiPending = s.nmiPending := rfl
@[simp] theorem State.setCpu_resetRequest (s : State) (r : Cpu) : (s.setCpu r).resetRequest = s.resetRequest := rfl
@[simp] theorem State.setCpu_halt (s : State) (r : Cpu) : (s.setCpu r).halt = s.halt := rfl
@[simp] theorem State.setCpu_crashed (s : State) (r : Cpu) : (s.setCpu r).crashed = s.crashed := rfl
@[simp] theorem State.setCpu_cpuCycles (s : State) (r : Cpu) : (s.setCpu r).cpuCycles = s.cpuCycles := rfl
@[simp] theorem State.setCpu_ram (s : State) (r : Cpu) : (s.setCpu r).ram = s.ram := rfl
@[simp] theorem State.setCpu_ppu (s : State) (r : Cpu) : (s.setCpu r).ppu = s.ppu := rfl
@[simp] theorem State.setCpu_apu (s : State) (r : Cpu) : (s.setCpu r).apu = s.apu := rfl
@[simp] theorem State.setCpu_pads (s : State) (r : Cpu) : (s.setCpu r).pads = s.pads := rfl
@[simp] theorem State.setCpu_cart (s : State) (r : Cpu) : (s.setCpu r).cart = s.cart := rfl
@[simp] theorem State.setCpu_params (s : State) (r : Cpu) : (s.setCpu r).params = s.params := rfl
@[simp] theorem State.setCpu_draws (s : State) (r : Cpu) : (s.setCpu r).draws = s.draws := rfl
@[simp] theorem State.setCpu_stepCycles (s : State) (r : Cpu) : (s.setCpu r).stepCycles = s.stepCycles := rfl

/-! `State.setPc` -/

@[simp] theorem State.setPc_cpu (s : State) (a : Word) : (s.setPc a).cpu = { s.cpu with pc := a } := rfl
@[simp] theorem State.setPc_nmiPending (s : State) (a : Word) : (s.setPc a).nmiPending = s.nmiPending := rfl
@[simp] theorem State.setPc_resetRequest (s : State) (a : Word) : (s.setPc a).resetRequest = s.resetRequest := rfl
@[simp] theorem State.setPc_halt (s : State) (a : Word) : (s.setPc a).halt = s.halt := rfl
@[simp] theorem State.setPc_crashed (s : State) (a : Word) : (s.setPc a).crashed = s.crashed := rfl
@[simp] theorem State.setPc_cpuCycles (s : State) (a : Word) : (s.setPc a).cpuCycles = s.cpuCycles := rfl
@[simp] theorem State.setPc_ram (s : State) (a : Word) : (s.setPc a).ram = s.ram := rfl
@[simp] theorem State.setPc_ppu (s : State) (a : Word) : (s.setPc a).ppu = s.ppu := rfl
@[simp] theorem State.setPc_apu (s : State) (a : Word) : (s.setPc a).apu = s.apu := rfl
@[simp] theorem State.setPc_pads (s : State) (a : Word) : (s.setPc a).pads = s.pads := rfl
@[simp] theorem State.setPc_cart (s : State) (a : Word) : (s.setPc a).cart = s.cart := rfl
@[simp] theorem State.setPc_params (s : State) (a : Word) : (s.setPc a).params = s.params := rfl
@[simp] theorem State.setPc_draws (s : State) (a : Word) : (s.setPc a).draws = s.draws := rfl
@[simp] theorem State.setPc_stepCycles (s : State) (a : Word) : (s.setPc a).stepCycles = s.stepCycles := rfl

/-! `State.addCycles` -/

@[simp] theorem State.addCycles_cpu (s : State) (n : Nat) : (s.addCycles n).cpu = s.cpu := rfl
@[simp] theorem State.addCycles_nmiPending (s : State) (n : Nat) : (s.addCycles n).nmiPending = s.nmiPending := rfl
@[simp] theorem State.addCycles_resetRequest (s : State) (n : Nat) : (s.addCycles n).resetRequest = s.resetRequest := rfl
@[simp] theorem State.addCycles_halt (s : State) (n : Nat) : (s.addCycles n).halt = s.halt := rfl
@[simp] theorem State.addCycles_crashed (s : State) (n : Nat) : (s.addCycles n).crashed = s.crashed := rfl
@[simp] theorem State.addCycles_cpuCycles (s : State) (n : Nat) : (s.addCycles n).cpuCycles = s.cpuCycles := rfl
@[simp] theorem State.addCycles_ram (s : State) (n : Nat) : (s.addCycles n).ram = s.ram := rfl
@[simp] theorem State.addCycles_ppu (s : State) (n : Nat) : (s.addCycles n).ppu = s.ppu := rfl
@[simp] theorem State.addCycles_apu (s : State) (n : Nat) : (s.addCycles n).apu = s.apu := rfl
@[simp] theorem State.addCycles_pads (s : State) (n : Nat) : (s.addCycles n).pads = s.pads := rfl
@[simp] theorem State.addCycles_cart (s : State) (n : Nat) : (s.addCycles n).cart = s.cart := rfl
@[simp] theorem State.addCycles_params (s : State) (n : Nat) : (s.addCycles n).params = s.params := rfl
@[simp] theorem State.addCycles_draws (s : State) (n : Nat) : (s.addCycles n).draws = s.draws := rfl
@[simp] theorem State.addCycles_stepCycles (s : State) (n : Nat) : (s.addCycles n).stepCycles = s.stepCycles + n := rfl

/-! `State.setBg` -/

@[simp] theorem State.setBg_cpu (s : State) (b : BgPipe) : (s.setBg b).cpu = s.cpu := rfl
@[simp] theorem State.setBg_nmiPending (s : State) (b : BgPipe) : (s.setBg b).nmiPending = s.nmiPending := rfl
@[simp] theorem State.setBg_resetRequest (s : State) (b : BgPipe) : (s.setBg b).resetRequest = s.resetRequest := rfl
@[simp] theorem State.setBg_halt (s : State) (b : BgPipe) : (s.setBg b).halt = s.halt := rfl
@[simp] theorem State.setBg_crashed (s : State) (b : BgPipe) : (s.setBg b).crashed = s.crashed := rfl
@[simp] theorem State.setBg_cpuCycles (s : State) (b : BgPipe) : (s.setBg b).cpuCycles = s.cpuCycles := rfl
@[simp] theorem State.setBg_ram (s : State) (b : BgPipe) : (s.setBg b).ram = s.ram := rfl
@[simp] theorem State.setBg_ppu (s : State) (b : BgPipe) : (s.setBg b).ppu = { s.ppu with bg := b } := rfl
@[simp] theorem State.setBg_apu (s : State) (b : BgPipe) : (s.setBg b).apu = s.apu := rfl
@[simp] theorem State.setBg_pads (s : State) (b : BgPipe) : (s.setBg b).pads = s.pads := rfl
@[simp] theorem State.setBg_cart (s : State) (b : BgPipe) : (s.setBg b).cart = s.cart := rfl
@[simp] theorem State.setBg_params (s : State) (b : BgPipe) : (s.setBg b).params = s.params := rfl
@[simp] theorem State.setBg_draws (s : State) (b : BgPipe) : (s.setBg b).draws = s.draws := rfl
@[simp] theorem State.setBg_stepCycles (s : State) (b : BgPipe) : (s.setBg b).stepCycles = s.stepCycles := rfl

/-! `Cpu.setNZ` -/

@[simp] theorem Cpu.setNZ_a (r : Cpu) (v : Byte) : (r.setNZ v).a = r.a := rfl
@[simp] theorem Cpu.setNZ_x (r : Cpu) (v : Byte) : (r.setNZ v).x = r.x := rfl
@[simp] theorem Cpu.setNZ_y (r : Cpu) (v : Byte) : (r.setNZ v).y = r.y := rfl
@[simp] theorem Cpu.setNZ_sp (r : Cpu) (v : Byte) : (r.setNZ v).sp = r.sp := rfl
@[simp] theorem Cpu.setNZ_pc (r : Cpu) (v : Byte) : (r.setNZ v).pc = r.pc := rfl
@[simp] theorem Cpu.setNZ_c (r : Cpu) (v : Byte) : (r.setNZ v).c = r.c := rfl
@[simp] theorem Cpu.setNZ_z (r : Cpu) (v : Byte) : (r.setNZ v).z = (v == 0) := rfl
@[simp] theorem Cpu.setNZ_i (r : Cpu) (v : Byte) : (r.setNZ v).i = r.i := rfl
@[simp] theorem Cpu.setNZ_d (r : Cpu) (v : Byte) : (r.setNZ v).d = r.d := rfl
@[simp] theorem Cpu.setNZ_v (r : Cpu) (v : Byte) : (r.setNZ v).v = r.v := rfl
@[simp] theorem Cpu.setNZ_n (r : Cpu) (v : Byte) : (r.setNZ v).n = v.msb := rfl

/-! `Cpu.loadStatus` -/

@[simp] theorem Cpu.loadStatus_a (r : Cpu) (p : Byte) : (r.loadStatus p).a = r.a := rfl
@[simp] theorem Cpu.loadStatus_x (r : Cpu) (p : Byte) : (r.loadStatus p).x = r.x := rfl
@[simp] theorem Cpu.loadStatus_y (r : Cpu) (p : Byte) : (r.loadStatus p).y = r.y := rfl
@[simp] theorem Cpu.loadStatus_sp (r : Cpu) (p : Byte) : (r.loadStatus p).sp = r.sp := rfl
@[simp] theorem Cpu.loadStatus_pc (r : Cpu) (p : Byte) : (r.loadStatus p).pc = r.pc := rfl
@[simp] theorem Cpu.loadStatus_c (r : Cpu) (p : Byte) : (r.loadStatus p).c = p.getLsbD 0 := rfl
@[simp] theorem Cpu.loadStatus_z (r : Cpu) (p : Byte) : (r.loadStatus p).z = p.getLsbD 1 := rfl
@[simp] theorem Cpu.loadStatus_i (r : Cpu) (p : Byte) : (r.loadStatus p).i = p.getLsbD 2 := rfl
@[simp] theorem Cpu.loadStatus_d (r : Cpu) (p : Byte) : (r.loadStatus p).d = p.getLsbD 3 := rfl
@[simp] theorem Cpu.loadStatus_v (r : Cpu) (p : Byte) : (r.loadStatus p).v = p.getLsbD 6 := rfl
@[simp] theorem Cpu.loadStatus_n (r : Cpu) (p : Byte) : (r.loadStatus p).n = p.getLsbD 7 := rfl

/-! ## Sprite slots -/

theorem Ppu.slot_prerender (p : Ppu) (j : Nat) (h : p.scanline = 261) : p.slot j = none := if_pos h

theorem Ppu.slot_visible (p : Ppu) (j : Nat) (h : p.scanline ≠ 261) : p.slot j = p.secondary[j]? := if_neg h

end Sys2Proof.Machine
end

