-- ==== Sys2Proof/Laws/Bus.lean ====
section
/-! SUPPORT. What a CPU-bus access can do: a read changes no register, no memory and no CPU event, and a write only the
locations it stores to; neither looks at the CPU registers. -/

namespace Sys2Proof.Machine

/-! ## What a read keeps -/

/-- The memories of a cartridge. -/
def Cart.memories (c : Cart) : Memory × Memory × Memory × Memory × Memory :=
  (c.prg, c.chr, c.prgRam, c.vram, c.mapper.exram)

/-- Everything a bus read leaves alone, from `s` to `t`. -/
structure State.ReadKeeps (s t : State) : Prop where
  cpu : t.cpu = s.cpu
  nmiPending : t.nmiPending = s.nmiPending
  resetRequest : t.resetRequest = s.resetRequest
  halt : t.halt = s.halt
  crashed : t.crashed = s.crashed
  cpuCycles : t.cpuCycles = s.cpuCycles
  ram : t.ram = s.ram
  ciram : t.ppu.ciram = s.ppu.ciram
  palette : t.ppu.palette = s.ppu.palette
  oam : t.ppu.oam = s.ppu.oam
  oamAddr : t.ppu.oamAddr = s.ppu.oamAddr
  params : t.params = s.params
  stepCycles : t.stepCycles = s.stepCycles
  cart : t.cart.map Cart.memories = s.cart.map Cart.memories

theorem State.ReadKeeps.refl (s : State) : s.ReadKeeps s := by constructor <;> rfl

theorem State.ReadKeeps.trans {s t u : State} (h : s.ReadKeeps t) (k : t.ReadKeeps u) : s.ReadKeeps u where
  cpu := k.cpu.trans h.cpu
  nmiPending := k.nmiPending.trans h.nmiPending
  resetRequest := k.resetRequest.trans h.resetRequest
  halt := k.halt.trans h.halt
  crashed := k.crashed.trans h.crashed
  cpuCycles := k.cpuCycles.trans h.cpuCycles
  ram := k.ram.trans h.ram
  ciram := k.ciram.trans h.ciram
  palette := k.palette.trans h.palette
  oam := k.oam.trans h.oam
  oamAddr := k.oamAddr.trans h.oamAddr
  params := k.params.trans h.params
  stepCycles := k.stepCycles.trans h.stepCycles
  cart := k.cart.trans h.cart

/-- Equal memories hold equal bytes. -/
theorem State.byteAt_congr {s t : State} (ram : t.ram = s.ram) (ciram : t.ppu.ciram = s.ppu.ciram)
    (palette : t.ppu.palette = s.ppu.palette) (oam : t.ppu.oam = s.ppu.oam)
    (cart : t.cart.map Cart.memories = s.cart.map Cart.memories) (l : Location) : t.byteAt l = s.byteAt l := by
  have hc : ∀ l, (match t.cart with | some c => c.byteAt l | none => 0) =
      match s.cart with | some c => c.byteAt l | none => 0 := by
    intro l
    cases ht : t.cart <;> cases hs : s.cart <;> simp [ht, hs, Cart.memories] at cart
    · rfl
    · obtain ⟨h1, h2, h3, h4, h5⟩ := cart
      cases l <;> simp [Cart.byteAt, h1, h2, h3, h4, h5]
  cases l <;> simp only [State.byteAt, ram, ciram, palette, oam] <;> exact hc _

/-- A read leaves every byte of every memory as it was. -/
theorem State.ReadKeeps.byteAt {s t : State} (h : s.ReadKeeps t) (l : Location) : t.byteAt l = s.byteAt l :=
  State.byteAt_congr h.ram h.ciram h.palette h.oam h.cart l

theorem State.drive_keeps (s : State) (d : Driven) : s.ReadKeeps (s.drive d).2 := by
  unfold State.drive
  split
  · exact .refl s
  · constructor <;> rfl

theorem State.openBus_keeps (s : State) : s.ReadKeeps s.openBus.2 := s.drive_keeps _

/-- A mapper hook that leaves ExRAM alone keeps everything a read keeps. -/
theorem State.hook_keeps (s : State) (d : Caps → Bool) (f : Mapper → Mapper) (h : ∀ m, (f m).exram = m.exram) :
    s.ReadKeeps (s.hook d f) := by
  unfold State.hook
  split
  · rename_i c hc
    split
    · constructor <;> first | rfl | simp [hc, Cart.memories, h]
    · exact .refl s
  · exact .refl s

/-- Replacing the cartridge by one with the same memories keeps everything a read keeps. -/
theorem State.setCart_keeps (s : State) {c d : Cart} (hc : s.cart = some c) (h : d.memories = c.memories) :
    s.ReadKeeps { s with cart := some d } := by
  constructor <;> first | rfl | simp [hc, h]

theorem Mapper.addressUpdate_exram (m : Mapper) (a : Word) : (m.addressUpdate a).exram = m.exram := by
  cases m <;> simp only [Mapper.addressUpdate, Mapper.exram, Mmc5.addressUpdate, Mmc5.scanlineStart]
  repeat' split
  all_goals rfl

theorem State.addressHook_keeps (s : State) (a : Word) : s.ReadKeeps (s.addressHook a) :=
  s.hook_keeps _ _ fun m => m.addressUpdate_exram a

theorem State.nametableRead_keeps (s : State) (n : Word) : s.ReadKeeps (s.nametableRead n).2 := by
  unfold State.nametableRead
  split
  · rename_i c hc
    refine s.setCart_keeps hc ?_
    unfold Cart.readNametable
    cases hm : c.mapper <;> simp only [Cart.memories, Mapper.exram, hm]
    unfold Mmc5.readNametable
    dsimp only
    split
    · split <;> rfl
    · rfl
  · exact s.openBus_keeps

theorem State.ppuBusRead_keeps (s : State) (a : Word) (use : PatternUse) : s.ReadKeeps (s.ppuBusRead a use).2 := by
  unfold State.ppuBusRead
  refine (s.addressHook_keeps (a &&& 0x3FFF)).trans ?_
  simp only
  split
  · unfold State.patternRead
    split
    · exact .refl _
    · exact State.openBus_keeps _
  · split
    · exact State.nametableRead_keeps _ _
    · exact .refl _

theorem State.readData_keeps (s : State) : s.ReadKeeps s.readData.2 := by
  unfold State.readData
  simp only
  split
  · have h := s.ppuBusRead_keeps (s.ppu.v.setWidth 16 &&& 0x3FFF) .data
    exact ⟨h.cpu, h.nmiPending, h.resetRequest, h.halt, h.crashed, h.cpuCycles, h.ram, h.ciram, h.palette, h.oam,
      h.oamAddr, h.params, h.stepCycles, h.cart⟩
  · have h := (s.ppuBusRead_keeps (s.ppu.v.setWidth 16 &&& 0x3FFF) .data).trans
      (State.ppuBusRead_keeps _ ((s.ppu.v.setWidth 16 &&& 0x3FFF) - 0x1000) .data)
    exact ⟨h.cpu, h.nmiPending, h.resetRequest, h.halt, h.crashed, h.cpuCycles, h.ram, h.ciram, h.palette, h.oam,
      h.oamAddr, h.params, h.stepCycles, h.cart⟩

/-- Changing only PPU flags, APU or controller state and then driving the bus keeps everything a read keeps. -/
theorem State.drive_after {s t : State} (h : s.ReadKeeps t) (d : Driven) : s.ReadKeeps (t.drive d).2 :=
  h.trans (t.drive_keeps d)

theorem State.ppuRegRead_keeps (s : State) (k : Nat) : s.ReadKeeps (s.ppuRegRead k).2 := by
  unfold State.ppuRegRead
  split
  · exact State.drive_after (by constructor <;> rfl) _
  · exact .refl s
  · exact s.readData_keeps
  · exact s.openBus_keeps

theorem Cart.cpuRead_memories (c : Cart) (a : Word) : (c.cpuRead a).2.memories = c.memories := by
  unfold Cart.cpuRead
  split
  · rfl
  · cases hm : c.mapper <;> simp only [Cart.memories, Mapper.exram, hm]
    unfold Mmc5.readRegister
    repeat' split
    all_goals rfl

theorem State.cartRead_keeps (s : State) (a : Word) : s.ReadKeeps (s.cartRead a).2 := by
  unfold State.cartRead
  split
  · rename_i c hc
    exact State.drive_after (s.setCart_keeps hc (c.cpuRead_memories a)) _
  · exact s.openBus_keeps

/-- A bus read changes no CPU register, no CPU event, no count and no memory (20_memory.md R213 lists what it can). -/
theorem State.busRead_keeps (s : State) (a : Word) : s.ReadKeeps (s.busRead a).2 := by
  unfold State.busRead
  split
  · exact .refl s
  split
  · exact s.ppuRegRead_keeps _
  split
  · exact State.drive_after (by constructor <;> rfl) _
  split
  · exact State.drive_after (by constructor <;> rfl) _
  split
  · exact State.drive_after (by constructor <;> rfl) _
  split
  · exact s.openBus_keeps
  · exact s.cartRead_keeps a

/-- A RAM read gives the byte at the mirrored index and changes nothing (20_memory.md R203). -/
theorem State.busRead_ram (s : State) (a : Word) (h : a < 0x2000) : s.busRead a = (s.ram.read (ramIndex a), s) := by
  unfold State.busRead
  rw [if_pos h]

/-! ## Accesses do not look at the CPU registers -/

theorem State.drive_setCpu (s : State) (r : Cpu) (d : Driven) :
    (s.setCpu r).drive d = ((s.drive d).1, (s.drive d).2.setCpu r) := by
  unfold State.drive; split <;> rfl

theorem State.hook_setCpu (s : State) (r : Cpu) (d : Caps → Bool) (f : Mapper → Mapper) :
    (s.setCpu r).hook d f = (s.hook d f).setCpu r := by
  unfold State.hook
  rw [State.setCpu_cart]
  cases s.cart with
  | none => rfl
  | some c => dsimp only; split <;> rfl

theorem State.ppuBusRead_setCpu (s : State) (r : Cpu) (a : Word) (use : PatternUse) :
    (s.setCpu r).ppuBusRead a use = ((s.ppuBusRead a use).1, (s.ppuBusRead a use).2.setCpu r) := by
  unfold State.ppuBusRead
  simp only [State.addressHook, State.hook_setCpu]
  generalize s.hook Caps.addrHook (·.addressUpdate (a &&& 0x3FFF)) = t
  split
  · unfold State.patternRead
    rw [State.setCpu_cart]
    cases t.cart with
    | none => exact State.drive_setCpu ..
    | some c => rfl
  · split
    · unfold State.nametableRead
      rw [State.setCpu_cart]
      cases t.cart with
      | none => exact State.drive_setCpu ..
      | some c => rfl
    · rfl

theorem State.readData_setCpu (s : State) (r : Cpu) :
    (s.setCpu r).readData = (s.readData.1, s.readData.2.setCpu r) := by
  unfold State.readData
  simp only [State.setCpu_ppu, State.ppuBusRead_setCpu]
  split <;> rfl

theorem State.busRead_setCpu (s : State) (r : Cpu) (a : Word) :
    (s.setCpu r).busRead a = ((s.busRead a).1, (s.busRead a).2.setCpu r) := by
  unfold State.busRead
  split
  · rfl
  split
  · unfold State.ppuRegRead
    split
    · exact State.drive_setCpu { s with ppu := { s.ppu with vblank := false, w := false } } r _
    · rfl
    · exact s.readData_setCpu r
    · exact State.drive_setCpu ..
  split
  · exact State.drive_setCpu { s with apu := { s.apu with frame := { s.apu.frame with irq := false } } } r _
  split
  · exact State.drive_setCpu { s with pads := { s.pads with pad1 := (s.pads.pad1.shift s.pads.strobe).2 } } r _
  split
  · exact State.drive_setCpu { s with pads := { s.pads with pad2 := (s.pads.pad2.shift s.pads.strobe).2 } } r _
  split
  · exact State.drive_setCpu ..
  · unfold State.cartRead
    rw [State.setCpu_cart]
    cases s.cart with
    | none => exact State.drive_setCpu ..
    | some c => exact State.drive_setCpu { s with cart := _ } r _

theorem State.ppuBusWrite_setCpu (s : State) (r : Cpu) (a : Word) (v : Byte) :
    (s.setCpu r).ppuBusWrite a v = (s.ppuBusWrite a v).setCpu r := by
  unfold State.ppuBusWrite
  simp only [State.addressHook, State.hook_setCpu]
  generalize s.hook Caps.addrHook (·.addressUpdate (a &&& 0x3FFF)) = t
  split
  · unfold State.patternWrite
    rw [State.setCpu_cart]
    cases t.cart <;> rfl
  · split
    · unfold State.nametableWrite
      rw [State.setCpu_cart]
      cases t.cart <;> rfl
    · rfl

theorem State.oamCopy_setCpu (d : Byte) (n : Nat) (s : State) (r : Cpu) :
    State.oamCopy d n (s.setCpu r) = (State.oamCopy d n s).setCpu r := by
  induction n generalizing s with
  | zero => rfl
  | succ n ih =>
    have h : (s.setCpu r).oamCopyByte d (BitVec.ofNat 8 (255 - n)) =
        (s.oamCopyByte d (BitVec.ofNat 8 (255 - n))).setCpu r := by
      unfold State.oamCopyByte
      rw [State.busRead_setCpu]
      rfl
    rw [State.oamCopy, h, ih]
    rfl

/-- A write acts the same whatever the CPU registers are. -/
theorem State.busWrite_setCpu (s : State) (r : Cpu) (a : Word) (v : Byte) (c : Bool) :
    (s.setCpu r).busWrite a v c = (s.busWrite a v c).setCpu r := by
  unfold State.busWrite
  split
  · rfl
  split
  · unfold State.ppuRegWrite
    split <;> try rfl
    unfold State.writeData
    rw [State.setCpu_ppu, State.ppuBusWrite_setCpu]
    rfl
  split
  · rfl
  split
  · unfold State.writeOamDma
    rw [State.oamCopy_setCpu]
    rfl
  split
  · rfl
  split
  · rfl
  split
  · rfl
  split
  · rfl
  · unfold State.cartWrite
    rw [State.setCpu_cart]
    cases s.cart <;> rfl

end Sys2Proof.Machine
end

