-- ==== Sys2Proof/Laws/PerInstr.lean ====
section
/-! SUPPORT. One lemma per constructor of `Instr`: its form is well-formed, its encoding has its length and starts with its
opcode, and the opcode map reads it back from its own opcode and operand bytes. -/

namespace Sys2Proof

/-- `b1` and `b2` are the operand bytes of an encoding (30_encoding.md R302, R303). -/
def OperandBytes.Fits (b1 b2 : Byte) : OperandBytes → Prop
  | .none => True
  | .one x => b1 = x
  | .two w => b2 ++ b1 = w

namespace Laws.Form

/-- What is said of each instruction as syntax. -/
def Statement (i : Instr) : Prop :=
  i.wellFormed = true ∧ (encode i).length = i.length ∧ (encode i).head? = some i.opcode ∧
    ∀ b1 b2, i.operand.bytes.Fits b1 b2 → Instr.ofBytes i.opcode b1 b2 = some i

theorem brk : Statement .brk := ⟨rfl, rfl, rfl, fun x y _ => by
  show Instr.ofBytes 0x00 x y = _; unfold Instr.ofBytes; rfl⟩

theorem oraIndx (b : Byte) : Statement (.oraIndx b) := ⟨rfl, rfl, rfl, fun x y h => by
  obtain rfl : x = b := h
  show Instr.ofBytes 0x01 x y = _; unfold Instr.ofBytes; rfl⟩

theorem sloIndx (b : Byte) : Statement (.sloIndx b) := ⟨rfl, rfl, rfl, fun x y h => by
  obtain rfl : x = b := h
  show Instr.ofBytes 0x03 x y = _; unfold Instr.ofBytes; rfl⟩

theorem ignZp04 (b : Byte) : Statement (.ignZp04 b) := ⟨rfl, rfl, rfl, fun x y h => by
  obtain rfl : x = b := h
  show Instr.ofBytes 0x04 x y = _; unfold Instr.ofBytes; rfl⟩

theorem oraZp (b : Byte) : Statement (.oraZp b) := ⟨rfl, rfl, rfl, fun x y h => by
  obtain rfl : x = b := h
  show Instr.ofBytes 0x05 x y = _; unfold Instr.ofBytes; rfl⟩

theorem aslZp (b : Byte) : Statement (.aslZp b) := ⟨rfl, rfl, rfl, fun x y h => by
  obtain rfl : x = b := h
  show Instr.ofBytes 0x06 x y = _; unfold Instr.ofBytes; rfl⟩

theorem sloZp (b : Byte) : Statement (.sloZp b) := ⟨rfl, rfl, rfl, fun x y h => by
  obtain rfl : x = b := h
  show Instr.ofBytes 0x07 x y = _; unfold Instr.ofBytes; rfl⟩

theorem php : Statement .php := ⟨rfl, rfl, rfl, fun x y _ => by
  show Instr.ofBytes 0x08 x y = _; unfold Instr.ofBytes; rfl⟩

theorem oraImm (b : Byte) : Statement (.oraImm b) := ⟨rfl, rfl, rfl, fun x y h => by
  obtain rfl : x = b := h
  show Instr.ofBytes 0x09 x y = _; unfold Instr.ofBytes; rfl⟩

theorem aslAcc : Statement .aslAcc := ⟨rfl, rfl, rfl, fun x y _ => by
  show Instr.ofBytes 0x0A x y = _; unfold Instr.ofBytes; rfl⟩

theorem ancImm0B (b : Byte) : Statement (.ancImm0B b) := ⟨rfl, rfl, rfl, fun x y h => by
  obtain rfl : x = b := h
  show Instr.ofBytes 0x0B x y = _; unfold Instr.ofBytes; rfl⟩

theorem ignAbs (w : Word) : Statement (.ignAbs w) := ⟨rfl, rfl, rfl, fun x y h => by
  obtain rfl : y ++ x = w := h
  show Instr.ofBytes 0x0C x y = _; unfold Instr.ofBytes; rfl⟩

theorem oraAbs (w : Word) : Statement (.oraAbs w) := ⟨rfl, rfl, rfl, fun x y h => by
  obtain rfl : y ++ x = w := h
  show Instr.ofBytes 0x0D x y = _; unfold Instr.ofBytes; rfl⟩

theorem aslAbs (w : Word) : Statement (.aslAbs w) := ⟨rfl, rfl, rfl, fun x y h => by
  obtain rfl : y ++ x = w := h
  show Instr.ofBytes 0x0E x y = _; unfold Instr.ofBytes; rfl⟩

theorem sloAbs (w : Word) : Statement (.sloAbs w) := ⟨rfl, rfl, rfl, fun x y h => by
  obtain rfl : y ++ x = w := h
  show Instr.ofBytes 0x0F x y = _; unfold Instr.ofBytes; rfl⟩

theorem bpl (b : Byte) : Statement (.bpl b) := ⟨rfl, rfl, rfl, fun x y h => by
  obtain rfl : x = b := h
  show Instr.ofBytes 0x10 x y = _; unfold Instr.ofBytes; rfl⟩

theorem oraIndy (b : Byte) : Statement (.oraIndy b) := ⟨rfl, rfl, rfl, fun x y h => by
  obtain rfl : x = b := h
  show Instr.ofBytes 0x11 x y = _; unfold Instr.ofBytes; rfl⟩

theorem sloIndy (b : Byte) : Statement (.sloIndy b) := ⟨rfl, rfl, rfl, fun x y h => by
  obtain rfl : x = b := h
  show Instr.ofBytes 0x13 x y = _; unfold Instr.ofBytes; rfl⟩

theorem ignZpx14 (b : Byte) : Statement (.ignZpx14 b) := ⟨rfl, rfl, rfl, fun x y h => by
  obtain rfl : x = b := h
  show Instr.ofBytes 0x14 x y = _; unfold Instr.ofBytes; rfl⟩

theorem oraZpx (b : Byte) : Statement (.oraZpx b) := ⟨rfl, rfl, rfl, fun x y h => by
  obtain rfl : x = b := h
  show Instr.ofBytes 0x15 x y = _; unfold Instr.ofBytes; rfl⟩

theorem aslZpx (b : Byte) : Statement (.aslZpx b) := ⟨rfl, rfl, rfl, fun x y h => by
  obtain rfl : x = b := h
  show Instr.ofBytes 0x16 x y = _; unfold Instr.ofBytes; rfl⟩

theorem sloZpx (b : Byte) : Statement (.sloZpx b) := ⟨rfl, rfl, rfl, fun x y h => by
  obtain rfl : x = b := h
  show Instr.ofBytes 0x17 x y = _; unfold Instr.ofBytes; rfl⟩

theorem clc : Statement .clc := ⟨rfl, rfl, rfl, fun x y _ => by
  show Instr.ofBytes 0x18 x y = _; unfold Instr.ofBytes; rfl⟩

theorem oraAbsy (w : Word) : Statement (.oraAbsy w) := ⟨rfl, rfl, rfl, fun x y h => by
  obtain rfl : y ++ x = w := h
  show Instr.ofBytes 0x19 x y = _; unfold Instr.ofBytes; rfl⟩

theorem sloAbsy (w : Word) : Statement (.sloAbsy w) := ⟨rfl, rfl, rfl, fun x y h => by
  obtain rfl : y ++ x = w := h
  show Instr.ofBytes 0x1B x y = _; unfold Instr.ofBytes; rfl⟩

theorem ignAbsx1C (w : Word) : Statement (.ignAbsx1C w) := ⟨rfl, rfl, rfl, fun x y h => by
  obtain rfl : y ++ x = w := h
  show Instr.ofBytes 0x1C x y = _; unfold Instr.ofBytes; rfl⟩

theorem oraAbsx (w : Word) : Statement (.oraAbsx w) := ⟨rfl, rfl, rfl, fun x y h => by
  obtain rfl : y ++ x = w := h
  show Instr.ofBytes 0x1D x y = _; unfold Instr.ofBytes; rfl⟩

theorem aslAbsx (w : Word) : Statement (.aslAbsx w) := ⟨rfl, rfl, rfl, fun x y h => by
  obtain rfl : y ++ x = w := h
  show Instr.ofBytes 0x1E x y = _; unfold Instr.ofBytes; rfl⟩

theorem sloAbsx (w : Word) : Statement (.sloAbsx w) := ⟨rfl, rfl, rfl, fun x y h => by
  obtain rfl : y ++ x = w := h
  show Instr.ofBytes 0x1F x y = _; unfold Instr.ofBytes; rfl⟩

theorem jsrAbs (w : Word) : Statement (.jsrAbs w) := ⟨rfl, rfl, rfl, fun x y h => by
  obtain rfl : y ++ x = w := h
  show Instr.ofBytes 0x20 x y = _; unfold Instr.ofBytes; rfl⟩

theorem andIndx (b : Byte) : Statement (.andIndx b) := ⟨rfl, rfl, rfl, fun x y h => by
  obtain rfl : x = b := h
  show Instr.ofBytes 0x21 x y = _; unfold Instr.ofBytes; rfl⟩

theorem rlaIndx (b : Byte) : Statement (.rlaIndx b) := ⟨rfl, rfl, rfl, fun x y h => by
  obtain rfl : x = b := h
  show Instr.ofBytes 0x23 x y = _; unfold Instr.ofBytes; rfl⟩

theorem bitZp (b : Byte) : Statement (.bitZp b) := ⟨rfl, rfl, rfl, fun x y h => by
  obtain rfl : x = b := h
  show Instr.ofBytes 0x24 x y = _; unfold Instr.ofBytes; rfl⟩

theorem andZp (b : Byte) : Statement (.andZp b) := ⟨rfl, rfl, rfl, fun x y h => by
  obtain rfl : x = b := h
  show Instr.ofBytes 0x25 x y = _; unfold Instr.ofBytes; rfl⟩

theorem rolZp (b : Byte) : Statement (.rolZp b) := ⟨rfl, rfl, rfl, fun x y h => by
  obtain rfl : x = b := h
  show Instr.ofBytes 0x26 x y = _; unfold Instr.ofBytes; rfl⟩

theorem rlaZp (b : Byte) : Statement (.rlaZp b) := ⟨rfl, rfl, rfl, fun x y h => by
  obtain rfl : x = b := h
  show Instr.ofBytes 0x27 x y = _; unfold Instr.ofBytes; rfl⟩

theorem plp : Statement .plp := ⟨rfl, rfl, rfl, fun x y _ => by
  show Instr.ofBytes 0x28 x y = _; unfold Instr.ofBytes; rfl⟩

theorem andImm (b : Byte) : Statement (.andImm b) := ⟨rfl, rfl, rfl, fun x y h => by
  obtain rfl : x = b := h
  show Instr.ofBytes 0x29 x y = _; unfold Instr.ofBytes; rfl⟩

theorem rolAcc : Statement .rolAcc := ⟨rfl, rfl, rfl, fun x y _ => by
  show Instr.ofBytes 0x2A x y = _; unfold Instr.ofBytes; rfl⟩

theorem ancImm2B (b : Byte) : Statement (.ancImm2B b) := ⟨rfl, rfl, rfl, fun x y h => by
  obtain rfl : x = b := h
  show Instr.ofBytes 0x2B x y = _; unfold Instr.ofBytes; rfl⟩

theorem bitAbs (w : Word) : Statement (.bitAbs w) := ⟨rfl, rfl, rfl, fun x y h => by
  obtain rfl : y ++ x = w := h
  show Instr.ofBytes 0x2C x y = _; unfold Instr.ofBytes; rfl⟩

theorem andAbs (w : Word) : Statement (.andAbs w) := ⟨rfl, rfl, rfl, fun x y h => by
  obtain rfl : y ++ x = w := h
  show Instr.ofBytes 0x2D x y = _; unfold Instr.ofBytes; rfl⟩

theorem rolAbs (w : Word) : Statement (.rolAbs w) := ⟨rfl, rfl, rfl, fun x y h => by
  obtain rfl : y ++ x = w := h
  show Instr.ofBytes 0x2E x y = _; unfold Instr.ofBytes; rfl⟩

theorem rlaAbs (w : Word) : Statement (.rlaAbs w) := ⟨rfl, rfl, rfl, fun x y h => by
  obtain rfl : y ++ x = w := h
  show Instr.ofBytes 0x2F x y = _; unfold Instr.ofBytes; rfl⟩

theorem bmi (b : Byte) : Statement (.bmi b) := ⟨rfl, rfl, rfl, fun x y h => by
  obtain rfl : x = b := h
  show Instr.ofBytes 0x30 x y = _; unfold Instr.ofBytes; rfl⟩

theorem andIndy (b : Byte) : Statement (.andIndy b) := ⟨rfl, rfl, rfl, fun x y h => by
  obtain rfl : x = b := h
  show Instr.ofBytes 0x31 x y = _; unfold Instr.ofBytes; rfl⟩

theorem rlaIndy (b : Byte) : Statement (.rlaIndy b) := ⟨rfl, rfl, rfl, fun x y h => by
  obtain rfl : x = b := h
  show Instr.ofBytes 0x33 x y = _; unfold Instr.ofBytes; rfl⟩

theorem ignZpx34 (b : Byte) : Statement (.ignZpx34 b) := ⟨rfl, rfl, rfl, fun x y h => by
  obtain rfl : x = b := h
  show Instr.ofBytes 0x34 x y = _; unfold Instr.ofBytes; rfl⟩

theorem andZpx (b : Byte) : Statement (.andZpx b) := ⟨rfl, rfl, rfl, fun x y h => by
  obtain rfl : x = b := h
  show Instr.ofBytes 0x35 x y = _; unfold Instr.ofBytes; rfl⟩

theorem rolZpx (b : Byte) : Statement (.rolZpx b) := ⟨rfl, rfl, rfl, fun x y h => by
  obtain rfl : x = b := h
  show Instr.ofBytes 0x36 x y = _; unfold Instr.ofBytes; rfl⟩

theorem rlaZpx (b : Byte) : Statement (.rlaZpx b) := ⟨rfl, rfl, rfl, fun x y h => by
  obtain rfl : x = b := h
  show Instr.ofBytes 0x37 x y = _; unfold Instr.ofBytes; rfl⟩

theorem sec : Statement .sec := ⟨rfl, rfl, rfl, fun x y _ => by
  show Instr.ofBytes 0x38 x y = _; unfold Instr.ofBytes; rfl⟩

theorem andAbsy (w : Word) : Statement (.andAbsy w) := ⟨rfl, rfl, rfl, fun x y h => by
  obtain rfl : y ++ x = w := h
  show Instr.ofBytes 0x39 x y = _; unfold Instr.ofBytes; rfl⟩

theorem rlaAbsy (w : Word) : Statement (.rlaAbsy w) := ⟨rfl, rfl, rfl, fun x y h => by
  obtain rfl : y ++ x = w := h
  show Instr.ofBytes 0x3B x y = _; unfold Instr.ofBytes; rfl⟩

theorem ignAbsx3C (w : Word) : Statement (.ignAbsx3C w) := ⟨rfl, rfl, rfl, fun x y h => by
  obtain rfl : y ++ x = w := h
  show Instr.ofBytes 0x3C x y = _; unfold Instr.ofBytes; rfl⟩

theorem andAbsx (w : Word) : Statement (.andAbsx w) := ⟨rfl, rfl, rfl, fun x y h => by
  obtain rfl : y ++ x = w := h
  show Instr.ofBytes 0x3D x y = _; unfold Instr.ofBytes; rfl⟩

theorem rolAbsx (w : Word) : Statement (.rolAbsx w) := ⟨rfl, rfl, rfl, fun x y h => by
  obtain rfl : y ++ x = w := h
  show Instr.ofBytes 0x3E x y = _; unfold Instr.ofBytes; rfl⟩

theorem rlaAbsx (w : Word) : Statement (.rlaAbsx w) := ⟨rfl, rfl, rfl, fun x y h => by
  obtain rfl : y ++ x = w := h
  show Instr.ofBytes 0x3F x y = _; unfold Instr.ofBytes; rfl⟩

theorem rti : Statement .rti := ⟨rfl, rfl, rfl, fun x y _ => by
  show Instr.ofBytes 0x40 x y = _; unfold Instr.ofBytes; rfl⟩

theorem eorIndx (b : Byte) : Statement (.eorIndx b) := ⟨rfl, rfl, rfl, fun x y h => by
  obtain rfl : x = b := h
  show Instr.ofBytes 0x41 x y = _; unfold Instr.ofBytes; rfl⟩

theorem sreIndx (b : Byte) : Statement (.sreIndx b) := ⟨rfl, rfl, rfl, fun x y h => by
  obtain rfl : x = b := h
  show Instr.ofBytes 0x43 x y = _; unfold Instr.ofBytes; rfl⟩

theorem ignZp44 (b : Byte) : Statement (.ignZp44 b) := ⟨rfl, rfl, rfl, fun x y h => by
  obtain rfl : x = b := h
  show Instr.ofBytes 0x44 x y = _; unfold Instr.ofBytes; rfl⟩

theorem eorZp (b : Byte) : Statement (.eorZp b) := ⟨rfl, rfl, rfl, fun x y h => by
  obtain rfl : x = b := h
  show Instr.ofBytes 0x45 x y = _; unfold Instr.ofBytes; rfl⟩

theorem lsrZp (b : Byte) : Statement (.lsrZp b) := ⟨rfl, rfl, rfl, fun x y h => by
  obtain rfl : x = b := h
  show Instr.ofBytes 0x46 x y = _; unfold Instr.ofBytes; rfl⟩

theorem sreZp (b : Byte) : Statement (.sreZp b) := ⟨rfl, rfl, rfl, fun x y h => by
  obtain rfl : x = b := h
  show Instr.ofBytes 0x47 x y = _; unfold Instr.ofBytes; rfl⟩

theorem pha : Statement .pha := ⟨rfl, rfl, rfl, fun x y _ => by
  show Instr.ofBytes 0x48 x y = _; unfold Instr.ofBytes; rfl⟩

theorem eorImm (b : Byte) : Statement (.eorImm b) := ⟨rfl, rfl, rfl, fun x y h => by
  obtain rfl : x = b := h
  show Instr.ofBytes 0x49 x y = _; unfold Instr.ofBytes; rfl⟩

theorem lsrAcc : Statement .lsrAcc := ⟨rfl, rfl, rfl, fun x y _ => by
  show Instr.ofBytes 0x4A x y = _; unfold Instr.ofBytes; rfl⟩

theorem alrImm (b : Byte) : Statement (.alrImm b) := ⟨rfl, rfl, rfl, fun x y h => by
  obtain rfl : x = b := h
  show Instr.ofBytes 0x4B x y = _; unfold Instr.ofBytes; rfl⟩

theorem jmpAbs (w : Word) : Statement (.jmpAbs w) := ⟨rfl, rfl, rfl, fun x y h => by
  obtain rfl : y ++ x = w := h
  show Instr.ofBytes 0x4C x y = _; unfold Instr.ofBytes; rfl⟩

theorem eorAbs (w : Word) : Statement (.eorAbs w) := ⟨rfl, rfl, rfl, fun x y h => by
  obtain rfl : y ++ x = w := h
  show Instr.ofBytes 0x4D x y = _; unfold Instr.ofBytes; rfl⟩

theorem lsrAbs (w : Word) : Statement (.lsrAbs w) := ⟨rfl, rfl, rfl, fun x y h => by
  obtain rfl : y ++ x = w := h
  show Instr.ofBytes 0x4E x y = _; unfold Instr.ofBytes; rfl⟩

theorem sreAbs (w : Word) : Statement (.sreAbs w) := ⟨rfl, rfl, rfl, fun x y h => by
  obtain rfl : y ++ x = w := h
  show Instr.ofBytes 0x4F x y = _; unfold Instr.ofBytes; rfl⟩

theorem bvc (b : Byte) : Statement (.bvc b) := ⟨rfl, rfl, rfl, fun x y h => by
  obtain rfl : x = b := h
  show Instr.ofBytes 0x50 x y = _; unfold Instr.ofBytes; rfl⟩

theorem eorIndy (b : Byte) : Statement (.eorIndy b) := ⟨rfl, rfl, rfl, fun x y h => by
  obtain rfl : x = b := h
  show Instr.ofBytes 0x51 x y = _; unfold Instr.ofBytes; rfl⟩

theorem sreIndy (b : Byte) : Statement (.sreIndy b) := ⟨rfl, rfl, rfl, fun x y h => by
  obtain rfl : x = b := h
  show Instr.ofBytes 0x53 x y = _; unfold Instr.ofBytes; rfl⟩

theorem ignZpx54 (b : Byte) : Statement (.ignZpx54 b) := ⟨rfl, rfl, rfl, fun x y h => by
  obtain rfl : x = b := h
  show Instr.ofBytes 0x54 x y = _; unfold Instr.ofBytes; rfl⟩

theorem eorZpx (b : Byte) : Statement (.eorZpx b) := ⟨rfl, rfl, rfl, fun x y h => by
  obtain rfl : x = b := h
  show Instr.ofBytes 0x55 x y = _; unfold Instr.ofBytes; rfl⟩

theorem lsrZpx (b : Byte) : Statement (.lsrZpx b) := ⟨rfl, rfl, rfl, fun x y h => by
  obtain rfl : x = b := h
  show Instr.ofBytes 0x56 x y = _; unfold Instr.ofBytes; rfl⟩

theorem sreZpx (b : Byte) : Statement (.sreZpx b) := ⟨rfl, rfl, rfl, fun x y h => by
  obtain rfl : x = b := h
  show Instr.ofBytes 0x57 x y = _; unfold Instr.ofBytes; rfl⟩

theorem cli : Statement .cli := ⟨rfl, rfl, rfl, fun x y _ => by
  show Instr.ofBytes 0x58 x y = _; unfold Instr.ofBytes; rfl⟩

theorem eorAbsy (w : Word) : Statement (.eorAbsy w) := ⟨rfl, rfl, rfl, fun x y h => by
  obtain rfl : y ++ x = w := h
  show Instr.ofBytes 0x59 x y = _; unfold Instr.ofBytes; rfl⟩

theorem sreAbsy (w : Word) : Statement (.sreAbsy w) := ⟨rfl, rfl, rfl, fun x y h => by
  obtain rfl : y ++ x = w := h
  show Instr.ofBytes 0x5B x y = _; unfold Instr.ofBytes; rfl⟩

theorem ignAbsx5C (w : Word) : Statement (.ignAbsx5C w) := ⟨rfl, rfl, rfl, fun x y h => by
  obtain rfl : y ++ x = w := h
  show Instr.ofBytes 0x5C x y = _; unfold Instr.ofBytes; rfl⟩

theorem eorAbsx (w : Word) : Statement (.eorAbsx w) := ⟨rfl, rfl, rfl, fun x y h => by
  obtain rfl : y ++ x = w := h
  show Instr.ofBytes 0x5D x y = _; unfold Instr.ofBytes; rfl⟩

theorem lsrAbsx (w : Word) : Statement (.lsrAbsx w) := ⟨rfl, rfl, rfl, fun x y h => by
  obtain rfl : y ++ x = w := h
  show Instr.ofBytes 0x5E x y = _; unfold Instr.ofBytes; rfl⟩

theorem sreAbsx (w : Word) : Statement (.sreAbsx w) := ⟨rfl, rfl, rfl, fun x y h => by
  obtain rfl : y ++ x = w := h
  show Instr.ofBytes 0x5F x y = _; unfold Instr.ofBytes; rfl⟩

theorem rts : Statement .rts := ⟨rfl, rfl, rfl, fun x y _ => by
  show Instr.ofBytes 0x60 x y = _; unfold Instr.ofBytes; rfl⟩

theorem adcIndx (b : Byte) : Statement (.adcIndx b) := ⟨rfl, rfl, rfl, fun x y h => by
  obtain rfl : x = b := h
  show Instr.ofBytes 0x61 x y = _; unfold Instr.ofBytes; rfl⟩

theorem rraIndx (b : Byte) : Statement (.rraIndx b) := ⟨rfl, rfl, rfl, fun x y h => by
  obtain rfl : x = b := h
  show Instr.ofBytes 0x63 x y = _; unfold Instr.ofBytes; rfl⟩

theorem ignZp64 (b : Byte) : Statement (.ignZp64 b) := ⟨rfl, rfl, rfl, fun x y h => by
  obtain rfl : x = b := h
  show Instr.ofBytes 0x64 x y = _; unfold Instr.ofBytes; rfl⟩

theorem adcZp (b : Byte) : Statement (.adcZp b) := ⟨rfl, rfl, rfl, fun x y h => by
  obtain rfl : x = b := h
  show Instr.ofBytes 0x65 x y = _; unfold Instr.ofBytes; rfl⟩

theorem rorZp (b : Byte) : Statement (.rorZp b) := ⟨rfl, rfl, rfl, fun x y h => by
  obtain rfl : x = b := h
  show Instr.ofBytes 0x66 x y = _; unfold Instr.ofBytes; rfl⟩

theorem rraZp (b : Byte) : Statement (.rraZp b) := ⟨rfl, rfl, rfl, fun x y h => by
  obtain rfl : x = b := h
  show Instr.ofBytes 0x67 x y = _; unfold Instr.ofBytes; rfl⟩

theorem pla : Statement .pla := ⟨rfl, rfl, rfl, fun x y _ => by
  show Instr.ofBytes 0x68 x y = _; unfold Instr.ofBytes; rfl⟩

theorem adcImm (b : Byte) : Statement (.adcImm b) := ⟨rfl, rfl, rfl, fun x y h => by
  obtain rfl : x = b := h
  show Instr.ofBytes 0x69 x y = _; unfold Instr.ofBytes; rfl⟩

theorem rorAcc : Statement .rorAcc := ⟨rfl, rfl, rfl, fun x y _ => by
  show Instr.ofBytes 0x6A x y = _; unfold Instr.ofBytes; rfl⟩

theorem arrImm (b : Byte) : Statement (.arrImm b) := ⟨rfl, rfl, rfl, fun x y h => by
  obtain rfl : x = b := h
  show Instr.ofBytes 0x6B x y = _; unfold Instr.ofBytes; rfl⟩

theorem jmpInd (w : Word) : Statement (.jmpInd w) := ⟨rfl, rfl, rfl, fun x y h => by
  obtain rfl : y ++ x = w := h
  show Instr.ofBytes 0x6C x y = _; unfold Instr.ofBytes; rfl⟩

theorem adcAbs (w : Word) : Statement (.adcAbs w) := ⟨rfl, rfl, rfl, fun x y h => by
  obtain rfl : y ++ x = w := h
  show Instr.ofBytes 0x6D x y = _; unfold Instr.ofBytes; rfl⟩

theorem rorAbs (w : Word) : Statement (.rorAbs w) := ⟨rfl, rfl, rfl, fun x y h => by
  obtain rfl : y ++ x = w := h
  show Instr.ofBytes 0x6E x y = _; unfold Instr.ofBytes; rfl⟩

theorem rraAbs (w : Word) : Statement (.rraAbs w) := ⟨rfl, rfl, rfl, fun x y h => by
  obtain rfl : y ++ x = w := h
  show Instr.ofBytes 0x6F x y = _; unfold Instr.ofBytes; rfl⟩

theorem bvs (b : Byte) : Statement (.bvs b) := ⟨rfl, rfl, rfl, fun x y h => by
  obtain rfl : x = b := h
  show Instr.ofBytes 0x70 x y = _; unfold Instr.ofBytes; rfl⟩

theorem adcIndy (b : Byte) : Statement (.adcIndy b) := ⟨rfl, rfl, rfl, fun x y h => by
  obtain rfl : x = b := h
  show Instr.ofBytes 0x71 x y = _; unfold Instr.ofBytes; rfl⟩

theorem rraIndy (b : Byte) : Statement (.rraIndy b) := ⟨rfl, rfl, rfl, fun x y h => by
  obtain rfl : x = b := h
  show Instr.ofBytes 0x73 x y = _; unfold Instr.ofBytes; rfl⟩

theorem ignZpx74 (b : Byte) : Statement (.ignZpx74 b) := ⟨rfl, rfl, rfl, fun x y h => by
  obtain rfl : x = b := h
  show Instr.ofBytes 0x74 x y = _; unfold Instr.ofBytes; rfl⟩

theorem adcZpx (b : Byte) : Statement (.adcZpx b) := ⟨rfl, rfl, rfl, fun x y h => by
  obtain rfl : x = b := h
  show Instr.ofBytes 0x75 x y = _; unfold Instr.ofBytes; rfl⟩

theorem rorZpx (b : Byte) : Statement (.rorZpx b) := ⟨rfl, rfl, rfl, fun x y h => by
  obtain rfl : x = b := h
  show Instr.ofBytes 0x76 x y = _; unfold Instr.ofBytes; rfl⟩

theorem rraZpx (b : Byte) : Statement (.rraZpx b) := ⟨rfl, rfl, rfl, fun x y h => by
  obtain rfl : x = b := h
  show Instr.ofBytes 0x77 x y = _; unfold Instr.ofBytes; rfl⟩

theorem sei : Statement .sei := ⟨rfl, rfl, rfl, fun x y _ => by
  show Instr.ofBytes 0x78 x y = _; unfold Instr.ofBytes; rfl⟩

theorem adcAbsy (w : Word) : Statement (.adcAbsy w) := ⟨rfl, rfl, rfl, fun x y h => by
  obtain rfl : y ++ x = w := h
  show Instr.ofBytes 0x79 x y = _; unfold Instr.ofBytes; rfl⟩

theorem rraAbsy (w : Word) : Statement (.rraAbsy w) := ⟨rfl, rfl, rfl, fun x y h => by
  obtain rfl : y ++ x = w := h
  show Instr.ofBytes 0x7B x y = _; unfold Instr.ofBytes; rfl⟩

theorem ignAbsx7C (w : Word) : Statement (.ignAbsx7C w) := ⟨rfl, rfl, rfl, fun x y h => by
  obtain rfl : y ++ x = w := h
  show Instr.ofBytes 0x7C x y = _; unfold Instr.ofBytes; rfl⟩

theorem adcAbsx (w : Word) : Statement (.adcAbsx w) := ⟨rfl, rfl, rfl, fun x y h => by
  obtain rfl : y ++ x = w := h
  show Instr.ofBytes 0x7D x y = _; unfold Instr.ofBytes; rfl⟩

theorem rorAbsx (w : Word) : Statement (.rorAbsx w) := ⟨rfl, rfl, rfl, fun x y h => by
  obtain rfl : y ++ x = w := h
  show Instr.ofBytes 0x7E x y = _; unfold Instr.ofBytes; rfl⟩

theorem rraAbsx (w : Word) : Statement (.rraAbsx w) := ⟨rfl, rfl, rfl, fun x y h => by
  obtain rfl : y ++ x = w := h
  show Instr.ofBytes 0x7F x y = _; unfold Instr.ofBytes; rfl⟩

theorem skbImm80 (b : Byte) : Statement (.skbImm80 b) := ⟨rfl, rfl, rfl, fun x y h => by
  obtain rfl : x = b := h
  show Instr.ofBytes 0x80 x y = _; unfold Instr.ofBytes; rfl⟩

theorem staIndx (b : Byte) : Statement (.staIndx b) := ⟨rfl, rfl, rfl, fun x y h => by
  obtain rfl : x = b := h
  show Instr.ofBytes 0x81 x y = _; unfold Instr.ofBytes; rfl⟩

theorem skbImm82 (b : Byte) : Statement (.skbImm82 b) := ⟨rfl, rfl, rfl, fun x y h => by
  obtain rfl : x = b := h
  show Instr.ofBytes 0x82 x y = _; unfold Instr.ofBytes; rfl⟩

theorem saxIndx (b : Byte) : Statement (.saxIndx b) := ⟨rfl, rfl, rfl, fun x y h => by
  obtain rfl : x = b := h
  show Instr.ofBytes 0x83 x y = _; unfold Instr.ofBytes; rfl⟩

theorem styZp (b : Byte) : Statement (.styZp b) := ⟨rfl, rfl, rfl, fun x y h => by
  obtain rfl : x = b := h
  show Instr.ofBytes 0x84 x y = _; unfold Instr.ofBytes; rfl⟩

theorem staZp (b : Byte) : Statement (.staZp b) := ⟨rfl, rfl, rfl, fun x y h => by
  obtain rfl : x = b := h
  show Instr.ofBytes 0x85 x y = _; unfold Instr.ofBytes; rfl⟩

theorem stxZp (b : Byte) : Statement (.stxZp b) := ⟨rfl, rfl, rfl, fun x y h => by
  obtain rfl : x = b := h
  show Instr.ofBytes 0x86 x y = _; unfold Instr.ofBytes; rfl⟩

theorem saxZp (b : Byte) : Statement (.saxZp b) := ⟨rfl, rfl, rfl, fun x y h => by
  obtain rfl : x = b := h
  show Instr.ofBytes 0x87 x y = _; unfold Instr.ofBytes; rfl⟩

theorem dey : Statement .dey := ⟨rfl, rfl, rfl, fun x y _ => by
  show Instr.ofBytes 0x88 x y = _; unfold Instr.ofBytes; rfl⟩

theorem skbImm89 (b : Byte) : Statement (.skbImm89 b) := ⟨rfl, rfl, rfl, fun x y h => by
  obtain rfl : x = b := h
  show Instr.ofBytes 0x89 x y = _; unfold Instr.ofBytes; rfl⟩

theorem txa : Statement .txa := ⟨rfl, rfl, rfl, fun x y _ => by
  show Instr.ofBytes 0x8A x y = _; unfold Instr.ofBytes; rfl⟩

theorem styAbs (w : Word) : Statement (.styAbs w) := ⟨rfl, rfl, rfl, fun x y h => by
  obtain rfl : y ++ x = w := h
  show Instr.ofBytes 0x8C x y = _; unfold Instr.ofBytes; rfl⟩

theorem staAbs (w : Word) : Statement (.staAbs w) := ⟨rfl, rfl, rfl, fun x y h => by
  obtain rfl : y ++ x = w := h
  show Instr.ofBytes 0x8D x y = _; unfold Instr.ofBytes; rfl⟩

theorem stxAbs (w : Word) : Statement (.stxAbs w) := ⟨rfl, rfl, rfl, fun x y h => by
  obtain rfl : y ++ x = w := h
  show Instr.ofBytes 0x8E x y = _; unfold Instr.ofBytes; rfl⟩

theorem saxAbs (w : Word) : Statement (.saxAbs w) := ⟨rfl, rfl, rfl, fun x y h => by
  obtain rfl : y ++ x = w := h
  show Instr.ofBytes 0x8F x y = _; unfold Instr.ofBytes; rfl⟩

theorem bcc (b : Byte) : Statement (.bcc b) := ⟨rfl, rfl, rfl, fun x y h => by
  obtain rfl : x = b := h
  show Instr.ofBytes 0x90 x y = _; unfold Instr.ofBytes; rfl⟩

theorem staIndy (b : Byte) : Statement (.staIndy b) := ⟨rfl, rfl, rfl, fun x y h => by
  obtain rfl : x = b := h
  show Instr.ofBytes 0x91 x y = _; unfold Instr.ofBytes; rfl⟩

theorem styZpx (b : Byte) : Statement (.styZpx b) := ⟨rfl, rfl, rfl, fun x y h => by
  obtain rfl : x = b := h
  show Instr.ofBytes 0x94 x y = _; unfold Instr.ofBytes; rfl⟩

theorem staZpx (b : Byte) : Statement (.staZpx b) := ⟨rfl, rfl, rfl, fun x y h => by
  obtain rfl : x = b := h
  show Instr.ofBytes 0x95 x y = _; unfold Instr.ofBytes; rfl⟩

theorem stxZpy (b : Byte) : Statement (.stxZpy b) := ⟨rfl, rfl, rfl, fun x y h => by
  obtain rfl : x = b := h
  show Instr.ofBytes 0x96 x y = _; unfold Instr.ofBytes; rfl⟩

theorem saxZpy (b : Byte) : Statement (.saxZpy b) := ⟨rfl, rfl, rfl, fun x y h => by
  obtain rfl : x = b := h
  show Instr.ofBytes 0x97 x y = _; unfold Instr.ofBytes; rfl⟩

theorem tya : Statement .tya := ⟨rfl, rfl, rfl, fun x y _ => by
  show Instr.ofBytes 0x98 x y = _; unfold Instr.ofBytes; rfl⟩

theorem staAbsy (w : Word) : Statement (.staAbsy w) := ⟨rfl, rfl, rfl, fun x y h => by
  obtain rfl : y ++ x = w := h
  show Instr.ofBytes 0x99 x y = _; unfold Instr.ofBytes; rfl⟩

theorem txs : Statement .txs := ⟨rfl, rfl, rfl, fun x y _ => by
  show Instr.ofBytes 0x9A x y = _; unfold Instr.ofBytes; rfl⟩

theorem staAbsx (w : Word) : Statement (.staAbsx w) := ⟨rfl, rfl, rfl, fun x y h => by
  obtain rfl : y ++ x = w := h
  show Instr.ofBytes 0x9D x y = _; unfold Instr.ofBytes; rfl⟩

theorem ldyImm (b : Byte) : Statement (.ldyImm b) := ⟨rfl, rfl, rfl, fun x y h => by
  obtain rfl : x = b := h
  show Instr.ofBytes 0xA0 x y = _; unfold Instr.ofBytes; rfl⟩

theorem ldaIndx (b : Byte) : Statement (.ldaIndx b) := ⟨rfl, rfl, rfl, fun x y h => by
  obtain rfl : x = b := h
  show Instr.ofBytes 0xA1 x y = _; unfold Instr.ofBytes; rfl⟩

theorem ldxImm (b : Byte) : Statement (.ldxImm b) := ⟨rfl, rfl, rfl, fun x y h => by
  obtain rfl : x = b := h
  show Instr.ofBytes 0xA2 x y = _; unfold Instr.ofBytes; rfl⟩

theorem laxIndx (b : Byte) : Statement (.laxIndx b) := ⟨rfl, rfl, rfl, fun x y h => by
  obtain rfl : x = b := h
  show Instr.ofBytes 0xA3 x y = _; unfold Instr.ofBytes; rfl⟩

theorem ldyZp (b : Byte) : Statement (.ldyZp b) := ⟨rfl, rfl, rfl, fun x y h => by
  obtain rfl : x = b := h
  show Instr.ofBytes 0xA4 x y = _; unfold Instr.ofBytes; rfl⟩

theorem ldaZp (b : Byte) : Statement (.ldaZp b) := ⟨rfl, rfl, rfl, fun x y h => by
  obtain rfl : x = b := h
  show Instr.ofBytes 0xA5 x y = _; unfold Instr.ofBytes; rfl⟩

theorem ldxZp (b : Byte) : Statement (.ldxZp b) := ⟨rfl, rfl, rfl, fun x y h => by
  obtain rfl : x = b := h
  show Instr.ofBytes 0xA6 x y = _; unfold Instr.ofBytes; rfl⟩

theorem laxZp (b : Byte) : Statement (.laxZp b) := ⟨rfl, rfl, rfl, fun x y h => by
  obtain rfl : x = b := h
  show Instr.ofBytes 0xA7 x y = _; unfold Instr.ofBytes; rfl⟩

theorem tay : Statement .tay := ⟨rfl, rfl, rfl, fun x y _ => by
  show Instr.ofBytes 0xA8 x y = _; unfold Instr.ofBytes; rfl⟩

theorem ldaImm (b : Byte) : Statement (.ldaImm b) := ⟨rfl, rfl, rfl, fun x y h => by
  obtain rfl : x = b := h
  show Instr.ofBytes 0xA9 x y = _; unfold Instr.ofBytes; rfl⟩

theorem tax : Statement .tax := ⟨rfl, rfl, rfl, fun x y _ => by
  show Instr.ofBytes 0xAA x y = _; unfold Instr.ofBytes; rfl⟩

theorem ldyAbs (w : Word) : Statement (.ldyAbs w) := ⟨rfl, rfl, rfl, fun x y h => by
  obtain rfl : y ++ x = w := h
  show Instr.ofBytes 0xAC x y = _; unfold Instr.ofBytes; rfl⟩

theorem ldaAbs (w : Word) : Statement (.ldaAbs w) := ⟨rfl, rfl, rfl, fun x y h => by
  obtain rfl : y ++ x = w := h
  show Instr.ofBytes 0xAD x y = _; unfold Instr.ofBytes; rfl⟩

theorem ldxAbs (w : Word) : Statement (.ldxAbs w) := ⟨rfl, rfl, rfl, fun x y h => by
  obtain rfl : y ++ x = w := h
  show Instr.ofBytes 0xAE x y = _; unfold Instr.ofBytes; rfl⟩

theorem laxAbs (w : Word) : Statement (.laxAbs w) := ⟨rfl, rfl, rfl, fun x y h => by
  obtain rfl : y ++ x = w := h
  show Instr.ofBytes 0xAF x y = _; unfold Instr.ofBytes; rfl⟩

theorem bcs (b : Byte) : Statement (.bcs b) := ⟨rfl, rfl, rfl, fun x y h => by
  obtain rfl : x = b := h
  show Instr.ofBytes 0xB0 x y = _; unfold Instr.ofBytes; rfl⟩

theorem ldaIndy (b : Byte) : Statement (.ldaIndy b) := ⟨rfl, rfl, rfl, fun x y h => by
  obtain rfl : x = b := h
  show Instr.ofBytes 0xB1 x y = _; unfold Instr.ofBytes; rfl⟩

theorem laxIndy (b : Byte) : Statement (.laxIndy b) := ⟨rfl, rfl, rfl, fun x y h => by
  obtain rfl : x = b := h
  show Instr.ofBytes 0xB3 x y = _; unfold Instr.ofBytes; rfl⟩

theorem ldyZpx (b : Byte) : Statement (.ldyZpx b) := ⟨rfl, rfl, rfl, fun x y h => by
  obtain rfl : x = b := h
  show Instr.ofBytes 0xB4 x y = _; unfold Instr.ofBytes; rfl⟩

theorem ldaZpx (b : Byte) : Statement (.ldaZpx b) := ⟨rfl, rfl, rfl, fun x y h => by
  obtain rfl : x = b := h
  show Instr.ofBytes 0xB5 x y = _; unfold Instr.ofBytes; rfl⟩

theorem ldxZpy (b : Byte) : Statement (.ldxZpy b) := ⟨rfl, rfl, rfl, fun x y h => by
  obtain rfl : x = b := h
  show Instr.ofBytes 0xB6 x y = _; unfold Instr.ofBytes; rfl⟩

theorem laxZpy (b : Byte) : Statement (.laxZpy b) := ⟨rfl, rfl, rfl, fun x y h => by
  obtain rfl : x = b := h
  show Instr.ofBytes 0xB7 x y = _; unfold Instr.ofBytes; rfl⟩

theorem clv : Statement .clv := ⟨rfl, rfl, rfl, fun x y _ => by
  show Instr.ofBytes 0xB8 x y = _; unfold Instr.ofBytes; rfl⟩

theorem ldaAbsy (w : Word) : Statement (.ldaAbsy w) := ⟨rfl, rfl, rfl, fun x y h => by
  obtain rfl : y ++ x = w := h
  show Instr.ofBytes 0xB9 x y = _; unfold Instr.ofBytes; rfl⟩

theorem tsx : Statement .tsx := ⟨rfl, rfl, rfl, fun x y _ => by
  show Instr.ofBytes 0xBA x y = _; unfold Instr.ofBytes; rfl⟩

theorem ldyAbsx (w : Word) : Statement (.ldyAbsx w) := ⟨rfl, rfl, rfl, fun x y h => by
  obtain rfl : y ++ x = w := h
  show Instr.ofBytes 0xBC x y = _; unfold Instr.ofBytes; rfl⟩

theorem ldaAbsx (w : Word) : Statement (.ldaAbsx w) := ⟨rfl, rfl, rfl, fun x y h => by
  obtain rfl : y ++ x = w := h
  show Instr.ofBytes 0xBD x y = _; unfold Instr.ofBytes; rfl⟩

theorem ldxAbsy (w : Word) : Statement (.ldxAbsy w) := ⟨rfl, rfl, rfl, fun x y h => by
  obtain rfl : y ++ x = w := h
  show Instr.ofBytes 0xBE x y = _; unfold Instr.ofBytes; rfl⟩

theorem laxAbsy (w : Word) : Statement (.laxAbsy w) := ⟨rfl, rfl, rfl, fun x y h => by
  obtain rfl : y ++ x = w := h
  show Instr.ofBytes 0xBF x y = _; unfold Instr.ofBytes; rfl⟩

theorem cpyImm (b : Byte) : Statement (.cpyImm b) := ⟨rfl, rfl, rfl, fun x y h => by
  obtain rfl : x = b := h
  show Instr.ofBytes 0xC0 x y = _; unfold Instr.ofBytes; rfl⟩

theorem cmpIndx (b : Byte) : Statement (.cmpIndx b) := ⟨rfl, rfl, rfl, fun x y h => by
  obtain rfl : x = b := h
  show Instr.ofBytes 0xC1 x y = _; unfold Instr.ofBytes; rfl⟩

theorem skbImmC2 (b : Byte) : Statement (.skbImmC2 b) := ⟨rfl, rfl, rfl, fun x y h => by
  obtain rfl : x = b := h
  show Instr.ofBytes 0xC2 x y = _; unfold Instr.ofBytes; rfl⟩

theorem dcpIndx (b : Byte) : Statement (.dcpIndx b) := ⟨rfl, rfl, rfl, fun x y h => by
  obtain rfl : x = b := h
  show Instr.ofBytes 0xC3 x y = _; unfold Instr.ofBytes; rfl⟩

theorem cpyZp (b : Byte) : Statement (.cpyZp b) := ⟨rfl, rfl, rfl, fun x y h => by
  obtain rfl : x = b := h
  show Instr.ofBytes 0xC4 x y = _; unfold Instr.ofBytes; rfl⟩

theorem cmpZp (b : Byte) : Statement (.cmpZp b) := ⟨rfl, rfl, rfl, fun x y h => by
  obtain rfl : x = b := h
  show Instr.ofBytes 0xC5 x y = _; unfold Instr.ofBytes; rfl⟩

theorem decZp (b : Byte) : Statement (.decZp b) := ⟨rfl, rfl, rfl, fun x y h => by
  obtain rfl : x = b := h
  show Instr.ofBytes 0xC6 x y = _; unfold Instr.ofBytes; rfl⟩

theorem dcpZp (b : Byte) : Statement (.dcpZp b) := ⟨rfl, rfl, rfl, fun x y h => by
  obtain rfl : x = b := h
  show Instr.ofBytes 0xC7 x y = _; unfold Instr.ofBytes; rfl⟩

theorem iny : Statement .iny := ⟨rfl, rfl, rfl, fun x y _ => by
  show Instr.ofBytes 0xC8 x y = _; unfold Instr.ofBytes; rfl⟩

theorem cmpImm (b : Byte) : Statement (.cmpImm b) := ⟨rfl, rfl, rfl, fun x y h => by
  obtain rfl : x = b := h
  show Instr.ofBytes 0xC9 x y = _; unfold Instr.ofBytes; rfl⟩

theorem dex : Statement .dex := ⟨rfl, rfl, rfl, fun x y _ => by
  show Instr.ofBytes 0xCA x y = _; unfold Instr.ofBytes; rfl⟩

theorem axsImm (b : Byte) : Statement (.axsImm b) := ⟨rfl, rfl, rfl, fun x y h => by
  obtain rfl : x = b := h
  show Instr.ofBytes 0xCB x y = _; unfold Instr.ofBytes; rfl⟩

theorem cpyAbs (w : Word) : Statement (.cpyAbs w) := ⟨rfl, rfl, rfl, fun x y h => by
  obtain rfl : y ++ x = w := h
  show Instr.ofBytes 0xCC x y = _; unfold Instr.ofBytes; rfl⟩

theorem cmpAbs (w : Word) : Statement (.cmpAbs w) := ⟨rfl, rfl, rfl, fun x y h => by
  obtain rfl : y ++ x = w := h
  show Instr.ofBytes 0xCD x y = _; unfold Instr.ofBytes; rfl⟩

theorem decAbs (w : Word) : Statement (.decAbs w) := ⟨rfl, rfl, rfl, fun x y h => by
  obtain rfl : y ++ x = w := h
  show Instr.ofBytes 0xCE x y = _; unfold Instr.ofBytes; rfl⟩

theorem dcpAbs (w : Word) : Statement (.dcpAbs w) := ⟨rfl, rfl, rfl, fun x y h => by
  obtain rfl : y ++ x = w := h
  show Instr.ofBytes 0xCF x y = _; unfold Instr.ofBytes; rfl⟩

theorem bne (b : Byte) : Statement (.bne b) := ⟨rfl, rfl, rfl, fun x y h => by
  obtain rfl : x = b := h
  show Instr.ofBytes 0xD0 x y = _; unfold Instr.ofBytes; rfl⟩

theorem cmpIndy (b : Byte) : Statement (.cmpIndy b) := ⟨rfl, rfl, rfl, fun x y h => by
  obtain rfl : x = b := h
  show Instr.ofBytes 0xD1 x y = _; unfold Instr.ofBytes; rfl⟩

theorem dcpIndy (b : Byte) : Statement (.dcpIndy b) := ⟨rfl, rfl, rfl, fun x y h => by
  obtain rfl : x = b := h
  show Instr.ofBytes 0xD3 x y = _; unfold Instr.ofBytes; rfl⟩

theorem ignZpxD4 (b : Byte) : Statement (.ignZpxD4 b) := ⟨rfl, rfl, rfl, fun x y h => by
  obtain rfl : x = b := h
  show Instr.ofBytes 0xD4 x y = _; unfold Instr.ofBytes; rfl⟩

theorem cmpZpx (b : Byte) : Statement (.cmpZpx b) := ⟨rfl, rfl, rfl, fun x y h => by
  obtain rfl : x = b := h
  show Instr.ofBytes 0xD5 x y = _; unfold Instr.ofBytes; rfl⟩

theorem decZpx (b : Byte) : Statement (.decZpx b) := ⟨rfl, rfl, rfl, fun x y h => by
  obtain rfl : x = b := h
  show Instr.ofBytes 0xD6 x y = _; unfold Instr.ofBytes; rfl⟩

theorem dcpZpx (b : Byte) : Statement (.dcpZpx b) := ⟨rfl, rfl, rfl, fun x y h => by
  obtain rfl : x = b := h
  show Instr.ofBytes 0xD7 x y = _; unfold Instr.ofBytes; rfl⟩

theorem cld : Statement .cld := ⟨rfl, rfl, rfl, fun x y _ => by
  show Instr.ofBytes 0xD8 x y = _; unfold Instr.ofBytes; rfl⟩

theorem cmpAbsy (w : Word) : Statement (.cmpAbsy w) := ⟨rfl, rfl, rfl, fun x y h => by
  obtain rfl : y ++ x = w := h
  show Instr.ofBytes 0xD9 x y = _; unfold Instr.ofBytes; rfl⟩

theorem dcpAbsy (w : Word) : Statement (.dcpAbsy w) := ⟨rfl, rfl, rfl, fun x y h => by
  obtain rfl : y ++ x = w := h
  show Instr.ofBytes 0xDB x y = _; unfold Instr.ofBytes; rfl⟩

theorem ignAbsxDC (w : Word) : Statement (.ignAbsxDC w) := ⟨rfl, rfl, rfl, fun x y h => by
  obtain rfl : y ++ x = w := h
  show Instr.ofBytes 0xDC x y = _; unfold Instr.ofBytes; rfl⟩

theorem cmpAbsx (w : Word) : Statement (.cmpAbsx w) := ⟨rfl, rfl, rfl, fun x y h => by
  obtain rfl : y ++ x = w := h
  show Instr.ofBytes 0xDD x y = _; unfold Instr.ofBytes; rfl⟩

theorem decAbsx (w : Word) : Statement (.decAbsx w) := ⟨rfl, rfl, rfl, fun x y h => by
  obtain rfl : y ++ x = w := h
  show Instr.ofBytes 0xDE x y = _; unfold Instr.ofBytes; rfl⟩

theorem dcpAbsx (w : Word) : Statement (.dcpAbsx w) := ⟨rfl, rfl, rfl, fun x y h => by
  obtain rfl : y ++ x = w := h
  show Instr.ofBytes 0xDF x y = _; unfold Instr.ofBytes; rfl⟩

theorem cpxImm (b : Byte) : Statement (.cpxImm b) := ⟨rfl, rfl, rfl, fun x y h => by
  obtain rfl : x = b := h
  show Instr.ofBytes 0xE0 x y = _; unfold Instr.ofBytes; rfl⟩

theorem sbcIndx (b : Byte) : Statement (.sbcIndx b) := ⟨rfl, rfl, rfl, fun x y h => by
  obtain rfl : x = b := h
  show Instr.ofBytes 0xE1 x y = _; unfold Instr.ofBytes; rfl⟩

theorem skbImmE2 (b : Byte) : Statement (.skbImmE2 b) := ⟨rfl, rfl, rfl, fun x y h => by
  obtain rfl : x = b := h
  show Instr.ofBytes 0xE2 x y = _; unfold Instr.ofBytes; rfl⟩

theorem iscIndx (b : Byte) : Statement (.iscIndx b) := ⟨rfl, rfl, rfl, fun x y h => by
  obtain rfl : x = b := h
  show Instr.ofBytes 0xE3 x y = _; unfold Instr.ofBytes; rfl⟩

theorem cpxZp (b : Byte) : Statement (.cpxZp b) := ⟨rfl, rfl, rfl, fun x y h => by
  obtain rfl : x = b := h
  show Instr.ofBytes 0xE4 x y = _; unfold Instr.ofBytes; rfl⟩

theorem sbcZp (b : Byte) : Statement (.sbcZp b) := ⟨rfl, rfl, rfl, fun x y h => by
  obtain rfl : x = b := h
  show Instr.ofBytes 0xE5 x y = _; unfold Instr.ofBytes; rfl⟩

theorem incZp (b : Byte) : Statement (.incZp b) := ⟨rfl, rfl, rfl, fun x y h => by
  obtain rfl : x = b := h
  show Instr.ofBytes 0xE6 x y = _; unfold Instr.ofBytes; rfl⟩

theorem iscZp (b : Byte) : Statement (.iscZp b) := ⟨rfl, rfl, rfl, fun x y h => by
  obtain rfl : x = b := h
  show Instr.ofBytes 0xE7 x y = _; unfold Instr.ofBytes; rfl⟩

theorem inx : Statement .inx := ⟨rfl, rfl, rfl, fun x y _ => by
  show Instr.ofBytes 0xE8 x y = _; unfold Instr.ofBytes; rfl⟩

theorem sbcImm (b : Byte) : Statement (.sbcImm b) := ⟨rfl, rfl, rfl, fun x y h => by
  obtain rfl : x = b := h
  show Instr.ofBytes 0xE9 x y = _; unfold Instr.ofBytes; rfl⟩

theorem nop : Statement .nop := ⟨rfl, rfl, rfl, fun x y _ => by
  show Instr.ofBytes 0xEA x y = _; unfold Instr.ofBytes; rfl⟩

theorem cpxAbs (w : Word) : Statement (.cpxAbs w) := ⟨rfl, rfl, rfl, fun x y h => by
  obtain rfl : y ++ x = w := h
  show Instr.ofBytes 0xEC x y = _; unfold Instr.ofBytes; rfl⟩

theorem sbcAbs (w : Word) : Statement (.sbcAbs w) := ⟨rfl, rfl, rfl, fun x y h => by
  obtain rfl : y ++ x = w := h
  show Instr.ofBytes 0xED x y = _; unfold Instr.ofBytes; rfl⟩

theorem incAbs (w : Word) : Statement (.incAbs w) := ⟨rfl, rfl, rfl, fun x y h => by
  obtain rfl : y ++ x = w := h
  show Instr.ofBytes 0xEE x y = _; unfold Instr.ofBytes; rfl⟩

theorem iscAbs (w : Word) : Statement (.iscAbs w) := ⟨rfl, rfl, rfl, fun x y h => by
  obtain rfl : y ++ x = w := h
  show Instr.ofBytes 0xEF x y = _; unfold Instr.ofBytes; rfl⟩

theorem beq (b : Byte) : Statement (.beq b) := ⟨rfl, rfl, rfl, fun x y h => by
  obtain rfl : x = b := h
  show Instr.ofBytes 0xF0 x y = _; unfold Instr.ofBytes; rfl⟩

theorem sbcIndy (b : Byte) : Statement (.sbcIndy b) := ⟨rfl, rfl, rfl, fun x y h => by
  obtain rfl : x = b := h
  show Instr.ofBytes 0xF1 x y = _; unfold Instr.ofBytes; rfl⟩

theorem iscIndy (b : Byte) : Statement (.iscIndy b) := ⟨rfl, rfl, rfl, fun x y h => by
  obtain rfl : x = b := h
  show Instr.ofBytes 0xF3 x y = _; unfold Instr.ofBytes; rfl⟩

theorem ignZpxF4 (b : Byte) : Statement (.ignZpxF4 b) := ⟨rfl, rfl, rfl, fun x y h => by
  obtain rfl : x = b := h
  show Instr.ofBytes 0xF4 x y = _; unfold Instr.ofBytes; rfl⟩

theorem sbcZpx (b : Byte) : Statement (.sbcZpx b) := ⟨rfl, rfl, rfl, fun x y h => by
  obtain rfl : x = b := h
  show Instr.ofBytes 0xF5 x y = _; unfold Instr.ofBytes; rfl⟩

theorem incZpx (b : Byte) : Statement (.incZpx b) := ⟨rfl, rfl, rfl, fun x y h => by
  obtain rfl : x = b := h
  show Instr.ofBytes 0xF6 x y = _; unfold Instr.ofBytes; rfl⟩

theorem iscZpx (b : Byte) : Statement (.iscZpx b) := ⟨rfl, rfl, rfl, fun x y h => by
  obtain rfl : x = b := h
  show Instr.ofBytes 0xF7 x y = _; unfold Instr.ofBytes; rfl⟩

theorem sed : Statement .sed := ⟨rfl, rfl, rfl, fun x y _ => by
  show Instr.ofBytes 0xF8 x y = _; unfold Instr.ofBytes; rfl⟩

theorem sbcAbsy (w : Word) : Statement (.sbcAbsy w) := ⟨rfl, rfl, rfl, fun x y h => by
  obtain rfl : y ++ x = w := h
  show Instr.ofBytes 0xF9 x y = _; unfold Instr.ofBytes; rfl⟩

theorem iscAbsy (w : Word) : Statement (.iscAbsy w) := ⟨rfl, rfl, rfl, fun x y h => by
  obtain rfl : y ++ x = w := h
  show Instr.ofBytes 0xFB x y = _; unfold Instr.ofBytes; rfl⟩

theorem ignAbsxFC (w : Word) : Statement (.ignAbsxFC w) := ⟨rfl, rfl, rfl, fun x y h => by
  obtain rfl : y ++ x = w := h
  show Instr.ofBytes 0xFC x y = _; unfold Instr.ofBytes; rfl⟩

theorem sbcAbsx (w : Word) : Statement (.sbcAbsx w) := ⟨rfl, rfl, rfl, fun x y h => by
  obtain rfl : y ++ x = w := h
  show Instr.ofBytes 0xFD x y = _; unfold Instr.ofBytes; rfl⟩

theorem incAbsx (w : Word) : Statement (.incAbsx w) := ⟨rfl, rfl, rfl, fun x y h => by
  obtain rfl : y ++ x = w := h
  show Instr.ofBytes 0xFE x y = _; unfold Instr.ofBytes; rfl⟩

theorem iscAbsx (w : Word) : Statement (.iscAbsx w) := ⟨rfl, rfl, rfl, fun x y h => by
  obtain rfl : y ++ x = w := h
  show Instr.ofBytes 0xFF x y = _; unfold Instr.ofBytes; rfl⟩

end Laws.Form

end Sys2Proof
end

