-- ==== Sys2Proof/Laws/Decode.lean ====
section
/-! SUPPORT. The opcode map against the encoder, for every instruction at once, and the bytes of a word. -/

namespace Sys2Proof

/-- The statement of every instruction as syntax. -/
theorem Instr.form_statement (i : Instr) : Laws.Form.Statement i := by
  cases i with
  | brk => exact Laws.Form.brk
  | oraIndx b => exact Laws.Form.oraIndx b
  | sloIndx b => exact Laws.Form.sloIndx b
  | ignZp04 b => exact Laws.Form.ignZp04 b
  | oraZp b => exact Laws.Form.oraZp b
  | aslZp b => exact Laws.Form.aslZp b
  | sloZp b => exact Laws.Form.sloZp b
  | php => exact Laws.Form.php
  | oraImm b => exact Laws.Form.oraImm b
  | aslAcc => exact Laws.Form.aslAcc
  | ancImm0B b => exact Laws.Form.ancImm0B b
  | ignAbs w => exact Laws.Form.ignAbs w
  | oraAbs w => exact Laws.Form.oraAbs w
  | aslAbs w => exact Laws.Form.aslAbs w
  | sloAbs w => exact Laws.Form.sloAbs w
  | bpl b => exact Laws.Form.bpl b
  | oraIndy b => exact Laws.Form.oraIndy b
  | sloIndy b => exact Laws.Form.sloIndy b
  | ignZpx14 b => exact Laws.Form.ignZpx14 b
  | oraZpx b => exact Laws.Form.oraZpx b
  | aslZpx b => exact Laws.Form.aslZpx b
  | sloZpx b => exact Laws.Form.sloZpx b
  | clc => exact Laws.Form.clc
  | oraAbsy w => exact Laws.Form.oraAbsy w
  | sloAbsy w => exact Laws.Form.sloAbsy w
  | ignAbsx1C w => exact Laws.Form.ignAbsx1C w
  | oraAbsx w => exact Laws.Form.oraAbsx w
  | aslAbsx w => exact Laws.Form.aslAbsx w
  | sloAbsx w => exact Laws.Form.sloAbsx w
  | jsrAbs w => exact Laws.Form.jsrAbs w
  | andIndx b => exact Laws.Form.andIndx b
  | rlaIndx b => exact Laws.Form.rlaIndx b
  | bitZp b => exact Laws.Form.bitZp b
  | andZp b => exact Laws.Form.andZp b
  | rolZp b => exact Laws.Form.rolZp b
  | rlaZp b => exact Laws.Form.rlaZp b
  | plp => exact Laws.Form.plp
  | andImm b => exact Laws.Form.andImm b
  | rolAcc => exact Laws.Form.rolAcc
  | ancImm2B b => exact Laws.Form.ancImm2B b
  | bitAbs w => exact Laws.Form.bitAbs w
  | andAbs w => exact Laws.Form.andAbs w
  | rolAbs w => exact Laws.Form.rolAbs w
  | rlaAbs w => exact Laws.Form.rlaAbs w
  | bmi b => exact Laws.Form.bmi b
  | andIndy b => exact Laws.Form.andIndy b
  | rlaIndy b => exact Laws.Form.rlaIndy b
  | ignZpx34 b => exact Laws.Form.ignZpx34 b
  | andZpx b => exact Laws.Form.andZpx b
  | rolZpx b => exact Laws.Form.rolZpx b
  | rlaZpx b => exact Laws.Form.rlaZpx b
  | sec => exact Laws.Form.sec
  | andAbsy w => exact Laws.Form.andAbsy w
  | rlaAbsy w => exact Laws.Form.rlaAbsy w
  | ignAbsx3C w => exact Laws.Form.ignAbsx3C w
  | andAbsx w => exact Laws.Form.andAbsx w
  | rolAbsx w => exact Laws.Form.rolAbsx w
  | rlaAbsx w => exact Laws.Form.rlaAbsx w
  | rti => exact Laws.Form.rti
  | eorIndx b => exact Laws.Form.eorIndx b
  | sreIndx b => exact Laws.Form.sreIndx b
  | ignZp44 b => exact Laws.Form.ignZp44 b
  | eorZp b => exact Laws.Form.eorZp b
  | lsrZp b => exact Laws.Form.lsrZp b
  | sreZp b => exact Laws.Form.sreZp b
  | pha => exact Laws.Form.pha
  | eorImm b => exact Laws.Form.eorImm b
  | lsrAcc => exact Laws.Form.lsrAcc
  | alrImm b => exact Laws.Form.alrImm b
  | jmpAbs w => exact Laws.Form.jmpAbs w
  | eorAbs w => exact Laws.Form.eorAbs w
  | lsrAbs w => exact Laws.Form.lsrAbs w
  | sreAbs w => exact Laws.Form.sreAbs w
  | bvc b => exact Laws.Form.bvc b
  | eorIndy b => exact Laws.Form.eorIndy b
  | sreIndy b => exact Laws.Form.sreIndy b
  | ignZpx54 b => exact Laws.Form.ignZpx54 b
  | eorZpx b => exact Laws.Form.eorZpx b
  | lsrZpx b => exact Laws.Form.lsrZpx b
  | sreZpx b => exact Laws.Form.sreZpx b
  | cli => exact Laws.Form.cli
  | eorAbsy w => exact Laws.Form.eorAbsy w
  | sreAbsy w => exact Laws.Form.sreAbsy w
  | ignAbsx5C w => exact Laws.Form.ignAbsx5C w
  | eorAbsx w => exact Laws.Form.eorAbsx w
  | lsrAbsx w => exact Laws.Form.lsrAbsx w
  | sreAbsx w => exact Laws.Form.sreAbsx w
  | rts => exact Laws.Form.rts
  | adcIndx b => exact Laws.Form.adcIndx b
  | rraIndx b => exact Laws.Form.rraIndx b
  | ignZp64 b => exact Laws.Form.ignZp64 b
  | adcZp b => exact Laws.Form.adcZp b
  | rorZp b => exact Laws.Form.rorZp b
  | rraZp b => exact Laws.Form.rraZp b
  | pla => exact Laws.Form.pla
  | adcImm b => exact Laws.Form.adcImm b
  | rorAcc => exact Laws.Form.rorAcc
  | arrImm b => exact Laws.Form.arrImm b
  | jmpInd w => exact Laws.Form.jmpInd w
  | adcAbs w => exact Laws.Form.adcAbs w
  | rorAbs w => exact Laws.Form.rorAbs w
  | rraAbs w => exact Laws.Form.rraAbs w
  | bvs b => exact Laws.Form.bvs b
  | adcIndy b => exact Laws.Form.adcIndy b
  | rraIndy b => exact Laws.Form.rraIndy b
  | ignZpx74 b => exact Laws.Form.ignZpx74 b
  | adcZpx b => exact Laws.Form.adcZpx b
  | rorZpx b => exact Laws.Form.rorZpx b
  | rraZpx b => exact Laws.Form.rraZpx b
  | sei => exact Laws.Form.sei
  | adcAbsy w => exact Laws.Form.adcAbsy w
  | rraAbsy w => exact Laws.Form.rraAbsy w
  | ignAbsx7C w => exact Laws.Form.ignAbsx7C w
  | adcAbsx w => exact Laws.Form.adcAbsx w
  | rorAbsx w => exact Laws.Form.rorAbsx w
  | rraAbsx w => exact Laws.Form.rraAbsx w
  | skbImm80 b => exact Laws.Form.skbImm80 b
  | staIndx b => exact Laws.Form.staIndx b
  | skbImm82 b => exact Laws.Form.skbImm82 b
  | saxIndx b => exact Laws.Form.saxIndx b
  | styZp b => exact Laws.Form.styZp b
  | staZp b => exact Laws.Form.staZp b
  | stxZp b => exact Laws.Form.stxZp b
  | saxZp b => exact Laws.Form.saxZp b
  | dey => exact Laws.Form.dey
  | skbImm89 b => exact Laws.Form.skbImm89 b
  | txa => exact Laws.Form.txa
  | styAbs w => exact Laws.Form.styAbs w
  | staAbs w => exact Laws.Form.staAbs w
  | stxAbs w => exact Laws.Form.stxAbs w
  | saxAbs w => exact Laws.Form.saxAbs w
  | bcc b => exact Laws.Form.bcc b
  | staIndy b => exact Laws.Form.staIndy b
  | styZpx b => exact Laws.Form.styZpx b
  | staZpx b => exact Laws.Form.staZpx b
  | stxZpy b => exact Laws.Form.stxZpy b
  | saxZpy b => exact Laws.Form.saxZpy b
  | tya => exact Laws.Form.tya
  | staAbsy w => exact Laws.Form.staAbsy w
  | txs => exact Laws.Form.txs
  | staAbsx w => exact Laws.Form.staAbsx w
  | ldyImm b => exact Laws.Form.ldyImm b
  | ldaIndx b => exact Laws.Form.ldaIndx b
  | ldxImm b => exact Laws.Form.ldxImm b
  | laxIndx b => exact Laws.Form.laxIndx b
  | ldyZp b => exact Laws.Form.ldyZp b
  | ldaZp b => exact Laws.Form.ldaZp b
  | ldxZp b => exact Laws.Form.ldxZp b
  | laxZp b => exact Laws.Form.laxZp b
  | tay => exact Laws.Form.tay
  | ldaImm b => exact Laws.Form.ldaImm b
  | tax => exact Laws.Form.tax
  | ldyAbs w => exact Laws.Form.ldyAbs w
  | ldaAbs w => exact Laws.Form.ldaAbs w
  | ldxAbs w => exact Laws.Form.ldxAbs w
  | laxAbs w => exact Laws.Form.laxAbs w
  | bcs b => exact Laws.Form.bcs b
  | ldaIndy b => exact Laws.Form.ldaIndy b
  | laxIndy b => exact Laws.Form.laxIndy b
  | ldyZpx b => exact Laws.Form.ldyZpx b
  | ldaZpx b => exact Laws.Form.ldaZpx b
  | ldxZpy b => exact Laws.Form.ldxZpy b
  | laxZpy b => exact Laws.Form.laxZpy b
  | clv => exact Laws.Form.clv
  | ldaAbsy w => exact Laws.Form.ldaAbsy w
  | tsx => exact Laws.Form.tsx
  | ldyAbsx w => exact Laws.Form.ldyAbsx w
  | ldaAbsx w => exact Laws.Form.ldaAbsx w
  | ldxAbsy w => exact Laws.Form.ldxAbsy w
  | laxAbsy w => exact Laws.Form.laxAbsy w
  | cpyImm b => exact Laws.Form.cpyImm b
  | cmpIndx b => exact Laws.Form.cmpIndx b
  | skbImmC2 b => exact Laws.Form.skbImmC2 b
  | dcpIndx b => exact Laws.Form.dcpIndx b
  | cpyZp b => exact Laws.Form.cpyZp b
  | cmpZp b => exact Laws.Form.cmpZp b
  | decZp b => exact Laws.Form.decZp b
  | dcpZp b => exact Laws.Form.dcpZp b
  | iny => exact Laws.Form.iny
  | cmpImm b => exact Laws.Form.cmpImm b
  | dex => exact Laws.Form.dex
  | axsImm b => exact Laws.Form.axsImm b
  | cpyAbs w => exact Laws.Form.cpyAbs w
  | cmpAbs w => exact Laws.Form.cmpAbs w
  | decAbs w => exact Laws.Form.decAbs w
  | dcpAbs w => exact Laws.Form.dcpAbs w
  | bne b => exact Laws.Form.bne b
  | cmpIndy b => exact Laws.Form.cmpIndy b
  | dcpIndy b => exact Laws.Form.dcpIndy b
  | ignZpxD4 b => exact Laws.Form.ignZpxD4 b
  | cmpZpx b => exact Laws.Form.cmpZpx b
  | decZpx b => exact Laws.Form.decZpx b
  | dcpZpx b => exact Laws.Form.dcpZpx b
  | cld => exact Laws.Form.cld
  | cmpAbsy w => exact Laws.Form.cmpAbsy w
  | dcpAbsy w => exact Laws.Form.dcpAbsy w
  | ignAbsxDC w => exact Laws.Form.ignAbsxDC w
  | cmpAbsx w => exact Laws.Form.cmpAbsx w
  | decAbsx w => exact Laws.Form.decAbsx w
  | dcpAbsx w => exact Laws.Form.dcpAbsx w
  | cpxImm b => exact Laws.Form.cpxImm b
  | sbcIndx b => exact Laws.Form.sbcIndx b
  | skbImmE2 b => exact Laws.Form.skbImmE2 b
  | iscIndx b => exact Laws.Form.iscIndx b
  | cpxZp b => exact Laws.Form.cpxZp b
  | sbcZp b => exact Laws.Form.sbcZp b
  | incZp b => exact Laws.Form.incZp b
  | iscZp b => exact Laws.Form.iscZp b
  | inx => exact Laws.Form.inx
  | sbcImm b => exact Laws.Form.sbcImm b
  | nop => exact Laws.Form.nop
  | cpxAbs w => exact Laws.Form.cpxAbs w
  | sbcAbs w => exact Laws.Form.sbcAbs w
  | incAbs w => exact Laws.Form.incAbs w
  | iscAbs w => exact Laws.Form.iscAbs w
  | beq b => exact Laws.Form.beq b
  | sbcIndy b => exact Laws.Form.sbcIndy b
  | iscIndy b => exact Laws.Form.iscIndy b
  | ignZpxF4 b => exact Laws.Form.ignZpxF4 b
  | sbcZpx b => exact Laws.Form.sbcZpx b
  | incZpx b => exact Laws.Form.incZpx b
  | iscZpx b => exact Laws.Form.iscZpx b
  | sed => exact Laws.Form.sed
  | sbcAbsy w => exact Laws.Form.sbcAbsy w
  | iscAbsy w => exact Laws.Form.iscAbsy w
  | ignAbsxFC w => exact Laws.Form.ignAbsxFC w
  | sbcAbsx w => exact Laws.Form.sbcAbsx w
  | incAbsx w => exact Laws.Form.incAbsx w
  | iscAbsx w => exact Laws.Form.iscAbsx w

/-- The opcode map reads an instruction from its own opcode and operand bytes, whatever bytes it does not use. -/
theorem Instr.ofBytes_opcode (i : Instr) (b1 b2 : Byte) (h : i.operand.bytes.Fits b1 b2) :
    Instr.ofBytes i.opcode b1 b2 = some i := i.form_statement.2.2.2 b1 b2 h

/-- The high and the low byte of a word make the word. -/
theorem word_of_bytes (w : Word) : (w.extractLsb' 8 8 ++ w.extractLsb' 0 8 : Word) = w := by
  ext i hi
  simp only [BitVec.getElem_append, BitVec.getElem_extractLsb']
  split <;> simp_all

/-- An instruction has one to three bytes. -/
theorem Instr.length_le (i : Instr) : 1 ≤ i.length ∧ i.length ≤ 3 := by
  unfold Instr.length
  cases i.operand.bytes <;> simp [OperandBytes.length]

end Sys2Proof
end

