-- ==== Sys2Proof/Laws/Memory.lean ====
section
/-! SUPPORT. The laws of sparse storage: a read after a write, and the canonical form that every write keeps. -/

namespace Sys2Proof.Machine

variable {w : Nat}

/-- An index below every index in use reads as unlisted. -/
theorem Store.read_below (m : Store w) (k : Nat) (h : ∀ e ∈ m, k < e.1) : m.read k = Store.unlisted := by
  induction m with
  | nil => rfl
  | cons e rest ih =>
    obtain ⟨j, v⟩ := e
    have hj : k < j := h (j, v) (by simp)
    have hrest := ih fun e he => h e (by simp [he])
    simp only [Store.read]
    rw [if_neg (by omega), hrest]

theorem Store.wf_cons (k : Nat) (v : BitVec w) (rest : Store w) :
    Store.wf ((k, v) :: rest) = true ↔ v ≠ Store.unlisted ∧ (∀ e ∈ rest, k < e.1) ∧ rest.wf = true := by
  simp [Store.wf, and_assoc]

/-- A write leaves every other index alone. -/
theorem Store.read_write_ne (m : Store w) (j k : Nat) (x : BitVec w) (h : k ≠ j) : (m.write j x).read k = m.read k := by
  induction m with
  | nil => simp only [Store.write]; split <;> simp [Store.read]; omega
  | cons e rest ih =>
    obtain ⟨i, v⟩ := e
    simp only [Store.write]
    split
    · split <;> simp only [Store.read]; rw [if_neg h]
    · split
      · have hki : k ≠ i := by omega
        split <;> simp [Store.read, hki]
      · simp only [Store.read]; rw [ih]

/-- A read of the index just written gives the value written. -/
theorem Store.read_write_self (m : Store w) (j : Nat) (x : BitVec w) (h : m.wf = true) : (m.write j x).read j = x := by
  induction m with
  | nil => simp only [Store.write]; split <;> simp_all [Store.read]
  | cons e rest ih =>
    obtain ⟨i, v⟩ := e
    obtain ⟨hv, hlt, hwf⟩ := (Store.wf_cons i v rest).mp h
    simp only [Store.write]
    split
    · rename_i hji
      split
      · rename_i hx
        rw [hx]
        exact Store.read_below _ _ fun e he => by
          rcases List.mem_cons.mp he with rfl | he
          · exact hji
          · exact Nat.lt_trans hji (hlt e he)
      · simp [Store.read]
    · split
      · rename_i _ hji
        split
        · rename_i hx
          rw [hx, hji]
          exact Store.read_below _ _ hlt
        · simp [Store.read, hji]
      · rename_i hji
        simp only [Store.read]
        rw [if_neg hji, ih hwf]

/-- What a write puts into a storage: the index written, or an entry that was there. -/
theorem Store.mem_write (m : Store w) (j : Nat) (x : BitVec w) (e : Nat × BitVec w) (h : e ∈ m.write j x) :
    e.1 = j ∨ e ∈ m := by
  induction m with
  | nil => simp only [Store.write] at h; split at h <;> simp_all
  | cons c rest ih =>
    obtain ⟨i, v⟩ := c
    simp only [Store.write] at h
    split at h
    · split at h
      · exact .inr h
      · rcases List.mem_cons.mp h with rfl | h
        · exact .inl rfl
        · exact .inr h
    · split at h
      · rename_i hji
        split at h
        · exact .inr (List.mem_cons_of_mem _ h)
        · rcases List.mem_cons.mp h with rfl | h
          · exact .inl hji.symm
          · exact .inr (List.mem_cons_of_mem _ h)
      · rcases List.mem_cons.mp h with rfl | h
        · exact .inr (by simp)
        · rcases ih h with h | h
          · exact .inl h
          · exact .inr (List.mem_cons_of_mem _ h)

/-- Every write keeps the canonical form. -/
theorem Store.wf_write (m : Store w) (j : Nat) (x : BitVec w) (h : m.wf = true) : (m.write j x).wf = true := by
  induction m with
  | nil => simp only [Store.write]; split <;> simp_all [Store.wf]
  | cons c rest ih =>
    obtain ⟨i, v⟩ := c
    obtain ⟨hv, hlt, hwf⟩ := (Store.wf_cons i v rest).mp h
    simp only [Store.write]
    split
    · rename_i hji
      split
      · exact h
      · rename_i hx
        refine (Store.wf_cons ..).mpr ⟨hx, fun e he => ?_, h⟩
        rcases List.mem_cons.mp he with rfl | he
        · exact hji
        · exact Nat.lt_trans hji (hlt e he)
    · split
      · split
        · exact hwf
        · rename_i hx
          exact (Store.wf_cons ..).mpr ⟨hx, hlt, hwf⟩
      · rename_i hge hne
        refine (Store.wf_cons ..).mpr ⟨hv, fun e he => ?_, ih hwf⟩
        rcases Store.mem_write rest j x e he with he | he
        · omega
        · exact hlt e he

theorem Store.below_iff (n : Nat) (m : Store w) : m.below n = true ↔ ∀ e ∈ m, e.1 < n := by simp [Store.below]

/-- A write below the bound keeps the storage within it. -/
theorem Store.Within.write {n : Nat} {m : Store w} (h : m.Within n) (j : Nat) (x : BitVec w) (hj : j < n) :
    (m.write j x).Within n := by
  refine ⟨Store.wf_write m j x h.1, (Store.below_iff ..).mpr fun e he => ?_⟩
  rcases Store.mem_write m j x e he with he | he
  · omega
  · exact (Store.below_iff ..).mp h.2 e he

theorem Store.within_nil (n : Nat) : Store.Within n ([] : Store w) := ⟨rfl, rfl⟩

/-- The indexes a list's storage uses. -/
theorem Store.mem_ofList (k : Nat) (l : List (BitVec w)) (e : Nat × BitVec w) (h : e ∈ Store.ofList k l) :
    k ≤ e.1 ∧ e.1 < k + l.length := by
  induction l generalizing k with
  | nil => simp [Store.ofList] at h
  | cons v rest ih =>
    simp only [Store.ofList] at h
    split at h
    · have := ih _ h; simp only [List.length_cons]; omega
    · rcases List.mem_cons.mp h with rfl | h
      · simp
      · have := ih _ h; simp only [List.length_cons]; omega

/-- A list's storage is in canonical form. -/
theorem Store.wf_ofList (k : Nat) (l : List (BitVec w)) : (Store.ofList k l).wf = true := by
  induction l generalizing k with
  | nil => rfl
  | cons v rest ih =>
    simp only [Store.ofList]
    split
    · exact ih _
    · rename_i hv
      exact (Store.wf_cons ..).mpr ⟨hv, fun e he => (Store.mem_ofList _ _ e he).1, ih _⟩

/-- Every memory of the machine at power-on with the default contents is in canonical form. -/
theorem State.reset_memories :
    State.reset.ram.wf = true ∧ State.reset.ppu.ciram.wf = true ∧ State.reset.ppu.palette.wf = true ∧
      State.reset.ppu.oam.wf = true ∧ State.reset.ppu.framebuffer.wf = true := ⟨rfl, rfl, rfl, rfl, rfl⟩

end Sys2Proof.Machine
end

