-- ==== Sys2Proof/Laws/Writes.lean ====
section
/-! SUPPORT. What a CPU-bus write can do: it changes no CPU register, adds to the halt at 0x4014 only, and changes no byte but
those it stores to (`State.writesAt`). -/

namespace Sys2Proof.Machine

/-- What every bus write leaves alone, from `s` to `t`. -/
structure State.WriteKeeps (s t : State) : Prop where
  cpu : t.cpu = s.cpu
  resetRequest : t.resetRequest = s.resetRequest
  crashed : t.crashed = s.crashed
  cpuCycles : t.cpuCycles = s.cpuCycles
  params : t.params = s.params
  stepCycles : t.stepCycles = s.stepCycles

theorem State.WriteKeeps.refl (s : State) : s.WriteKeeps s := by constructor <;> rfl

theorem State.WriteKeeps.trans {s t u : State} (h : s.WriteKeeps t) (k : t.WriteKeeps u) : s.WriteKeeps u where
  cpu := k.cpu.trans h.cpu
  resetRequest := k.resetRequest.trans h.resetRequest
  crashed := k.crashed.trans h.crashed
  cpuCycles := k.cpuCycles.trans h.cpuCycles
  params := k.params.trans h.params
  stepCycles := k.stepCycles.trans h.stepCycles

theorem State.ReadKeeps.writeKeeps {s t : State} (h : s.ReadKeeps t) : s.WriteKeeps t :=
  ⟨h.cpu, h.resetRequest, h.crashed, h.cpuCycles, h.params, h.stepCycles⟩

/-! ## The PPU bus -/

theorem Mmc5.exram_eq (r : Mmc5) : (Mapper.mmc5 r).exram = r.exram := rfl

/-- A store into one location, seen through `byteAt`: the location written reads as before or is the target. -/
theorem State.ppuBusWrite_byteAt (s : State) (a : Word) (v : Byte) (l : Location)
    (h : ((s.addressHook (a &&& 0x3FFF)).ppuTarget (a &&& 0x3FFF) == some l) = false) :
    (s.ppuBusWrite a v).byteAt l = s.byteAt l := by
  rw [← (s.addressHook_keeps (a &&& 0x3FFF)).byteAt l]
  unfold State.ppuBusWrite
  dsimp only
  generalize s.addressHook (a &&& 0x3FFF) = t at h
  generalize a &&& 0x3FFF = b at h
  unfold State.ppuTarget at h
  split
  · rename_i hb
    have h3 : ¬ (0x3F00 : Word) ≤ b := by bv_omega
    rw [if_neg h3] at h
    unfold State.patternWrite
    cases hc : t.cart with
    | none => rfl
    | some c =>
      simp only [hc, if_pos hb] at h
      dsimp only
      unfold Cart.ppuWrite
      cases hr : c.chrIsRam with
      | false => simp [State.byteAt, hc]
      | true =>
        simp only [hr, if_true] at h
        cases l <;> simp [State.byteAt, hc, Cart.byteAt]
        rename_i k
        exact Store.read_write_ne _ _ _ _ (fun hk => by simp [hk] at h)
  · rename_i hb
    split
    · rename_i h3f
      have h3 : ¬ (0x3F00 : Word) ≤ b := by bv_omega
      rw [if_neg h3] at h
      unfold State.nametableWrite
      cases hc : t.cart with
      | none => rfl
      | some c =>
        simp only [hc, if_neg hb] at h
        generalize nametableAddress b = n at h
        dsimp only
        unfold Cart.nametableTarget at h
        unfold Cart.writeNametable
        cases hm : c.mapper with
        | mmc5 r =>
          simp only [hm] at h
          dsimp only
          unfold Mmc5.writeNametable
          dsimp only
          split at h
          · simp_all only [State.byteAt]
            cases l <;> simp [Cart.byteAt, Mapper.exram, hm]
            exact Store.read_write_ne _ _ _ _ (fun hk => by simp [hk] at h)
          · simp_all only [State.byteAt]
            cases l <;> simp [Cart.byteAt, Mapper.exram, hm]
            exact Store.read_write_ne _ _ _ _ (fun hk => by simp [hk] at h)
          · simp_all only [State.byteAt]
            by_cases he : r.exramMode ≤ 1
            · simp only [he, if_true] at h ⊢
              cases l <;> simp [Cart.byteAt, Mapper.exram, hm]
              exact Store.read_write_ne _ _ _ _ (fun hk => by simp [hk] at h)
            · simp only [he, if_false]
              cases l <;> simp [Cart.byteAt, Mapper.exram, hm]
          · simp_all only [State.byteAt]
            cases l <;> simp [Cart.byteAt, Mapper.exram, hm]
        | _ =>
          simp only [hm] at h
          dsimp only
          split
          · rename_i hk
            simp only [hk, if_true] at h
            cases l <;> simp [State.byteAt, hc, Cart.byteAt, Mapper.exram, hm]
            exact Store.read_write_ne _ _ _ _ (fun hk => by simp [hk] at h)
          · rename_i hk
            simp only [hk, if_false] at h
            cases l <;> simp [State.byteAt, hc, Cart.byteAt, Mapper.exram, hm]
            exact Store.read_write_ne _ _ _ _ (fun hk => by simp [hk] at h)
    · rename_i h3f
      have h3 : (0x3F00 : Word) ≤ b := by bv_omega
      rw [if_pos h3] at h
      cases l <;> simp [State.byteAt]
      rw [Store.read_write_ne _ _ _ _ (fun hk => by simp [hk] at h)]

theorem State.ppuBusWrite_keeps (s : State) (a : Word) (v : Byte) :
    s.WriteKeeps (s.ppuBusWrite a v) ∧ (s.ppuBusWrite a v).halt = s.halt := by
  have hh := s.addressHook_keeps (a &&& 0x3FFF)
  refine ⟨hh.writeKeeps.trans ?_, Eq.trans ?_ hh.halt⟩ <;>
    unfold State.ppuBusWrite <;> dsimp only <;> generalize s.addressHook (a &&& 0x3FFF) = t
  · split
    · unfold State.patternWrite; split <;> constructor <;> rfl
    · split
      · unfold State.nametableWrite; split <;> constructor <;> rfl
      · constructor <;> rfl
  · split
    · unfold State.patternWrite; split <;> rfl
    · split
      · unfold State.nametableWrite; split <;> rfl
      · rfl

/-! ## The CPU bus -/

/-- One byte of an OAM DMA changes OAM only, and nothing a read keeps. -/
theorem State.oamCopyByte_keeps (s : State) (d i : Byte) :
    s.WriteKeeps (s.oamCopyByte d i) ∧ (s.oamCopyByte d i).halt = s.halt ∧
      ∀ l : Location, l.inOam = false → (s.oamCopyByte d i).byteAt l = s.byteAt l := by
  have hr := s.busRead_keeps (word d i)
  refine ⟨⟨hr.cpu, hr.resetRequest, hr.crashed, hr.cpuCycles, hr.params, hr.stepCycles⟩, hr.halt, fun l hl => ?_⟩
  rw [← hr.byteAt l]
  cases l <;> first | rfl | simp [Location.inOam] at hl

/-- The copy of an OAM DMA changes OAM only, and nothing a read keeps. -/
theorem State.oamCopy_keeps (d : Byte) (n : Nat) (s : State) :
    s.WriteKeeps (State.oamCopy d n s) ∧ (State.oamCopy d n s).halt = s.halt ∧
      ∀ l : Location, l.inOam = false → (State.oamCopy d n s).byteAt l = s.byteAt l := by
  induction n generalizing s with
  | zero => exact ⟨.refl s, rfl, fun _ _ => rfl⟩
  | succ n ih =>
    have h := s.oamCopyByte_keeps d (BitVec.ofNat 8 (255 - n))
    have k := ih (s.oamCopyByte d (BitVec.ofNat 8 (255 - n)))
    exact ⟨h.1.trans k.1, k.2.1.trans h.2.1, fun l hl => (k.2.2 l hl).trans (h.2.2 l hl)⟩

/-- An OAM DMA changes OAM and the halt only, and nothing a read keeps (61_ppu.md R918). -/
theorem State.writeOamDma_keeps (s : State) (d : Byte) :
    s.WriteKeeps (s.writeOamDma d) ∧ (s.writeOamDma d).halt = s.halt + 513 ∧
      ∀ l : Location, l.inOam = false → (s.writeOamDma d).byteAt l = s.byteAt l := by
  have h := State.oamCopy_keeps d 256 s
  unfold State.writeOamDma
  generalize State.oamCopy d 256 s = t at h
  exact ⟨⟨h.1.cpu, h.1.resetRequest, h.1.crashed, h.1.cpuCycles, h.1.params, h.1.stepCycles⟩,
    congrArg (· + 513) h.2.1, fun l hl => Eq.trans (by cases l <;> rfl) (h.2.2 l hl)⟩

theorem Mmc5.writeControl_exram (r : Mmc5) (n : Word) (v : Byte) : (r.writeControl n v).exram = r.exram := by
  unfold Mmc5.writeControl; dsimp only; repeat' split
  all_goals rfl

theorem Mmc5.writeBank_exram (r : Mmc5) (n : Word) (v : Byte) : (r.writeBank n v).exram = r.exram := by
  unfold Mmc5.writeBank; repeat' split
  all_goals rfl

theorem Mmc5.writeIrq_exram (r : Mmc5) (n : Word) (v : Byte) : (r.writeIrq n v).exram = r.exram := by
  unfold Mmc5.writeIrq; repeat' split
  all_goals rfl

/-- An MMC5 register write reaches ExRAM only at $5C00–$5FFF, outside mode 3 (63_mappers.md R1177). -/
theorem Mmc5.write_exram (r : Mmc5) (a : Word) (v : Byte) :
    (r.write a v).exram = r.exram ∨ (0x5C00 ≤ a ∧ a < 0x6000 ∧ r.exramMode ≠ 3 ∧
      (r.write a v).exram = r.exram.write (a - 0x5C00).toNat v) := by
  unfold Mmc5.write
  split
  · exact .inl (r.writeControl_exram ..)
  split
  · exact .inl (r.writeBank_exram ..)
  split
  · exact .inl (r.writeIrq_exram ..)
  split
  · rename_i h5 h
    exact .inr ⟨BitVec.not_lt.mp h5, h.1, h.2, rfl⟩
  · exact .inl rfl

theorem Cart.cpuWrite_byteAt (c : Cart) (a : Word) (v : Byte) (k : Bool) (l : Location)
    (h : (c.target a == some l) = false) : (c.cpuWrite a v k).byteAt l = c.byteAt l := by
  unfold Cart.target at h
  unfold Cart.cpuWrite
  split
  · rename_i ha
    simp only [ha, if_true] at h
    cases hm : c.mapper with
    | mmc5 r =>
      simp only [hm] at h
      dsimp only
      cases l <;> simp only [Cart.byteAt, Mapper.exram, hm]
      rename_i j
      rcases r.write_exram a v with he | ⟨hn, -, h3, he⟩
      · rw [he]
      · rw [he]
        simp only [hn, h3, ne_eq, not_false_eq_true, and_self, if_true] at h
        exact Store.read_write_ne _ _ _ _ (fun hk => by simp [hk] at h)
    | _ => rfl
  · rename_i ha
    simp only [ha, if_false] at h
    cases ht : c.prgTarget a with
    | ram j =>
      simp only [ht] at h
      dsimp only
      split
      · rename_i hw
        simp only [hw, if_true] at h
        cases l <;> simp only [Cart.byteAt]
        exact Store.read_write_ne _ _ _ _ (fun hk => by simp [hk] at h)
      · rfl
    | rom j =>
      cases l <;> simp only [Cart.byteAt]
      cases hm : c.mapper <;> rfl

/-- A PPU register write stores into OAM through OAMDATA, through the PPU bus with PPUDATA, and nowhere otherwise. -/
theorem State.ppuRegWrite_byteAt (s : State) (j : Nat) (v : Byte) (l : Location)
    (h4 : j = 4 → l ≠ .oam s.ppu.oamAddr.toNat)
    (h7 : j = 7 → ((s.addressHook (s.ppu.v.setWidth 16 &&& 0x3FFF)).ppuTarget (s.ppu.v.setWidth 16 &&& 0x3FFF) ==
      some l) = false) : (s.ppuRegWrite j v).byteAt l = s.byteAt l := by
  unfold State.ppuRegWrite
  split
  · unfold State.writeCtrl; cases l <;> rfl
  · cases l <;> rfl
  · cases l <;> rfl
  · unfold Ppu.writeOam
    cases l <;> simp only [State.byteAt]
    exact Store.read_write_ne _ _ _ _ (fun hk => h4 rfl (by rw [hk]))
  · unfold Ppu.writeScroll; split <;> cases l <;> rfl
  · unfold Ppu.writeAddr; split <;> cases l <;> rfl
  · unfold State.writeData
    have e : (s.ppu.v.setWidth 16 &&& 0x3FFF : Word) &&& 0x3FFF = s.ppu.v.setWidth 16 &&& 0x3FFF := by
      rw [BitVec.and_assoc, BitVec.and_self]
    refine Eq.trans ?_ (s.ppuBusWrite_byteAt (s.ppu.v.setWidth 16 &&& 0x3FFF) v l (by rw [e]; exact h7 rfl))
    cases l <;> rfl
  · rfl

theorem State.cartWrite_byteAt (s : State) (a : Word) (v : Byte) (k : Bool) (l : Location)
    (h : ∀ c, s.cart = some c → (c.target a == some l) = false) : (s.cartWrite a v k).byteAt l = s.byteAt l := by
  unfold State.cartWrite
  cases hc : s.cart with
  | none => rfl
  | some c => cases l <;> simp only [State.byteAt, hc] <;> exact c.cpuWrite_byteAt a v k _ (h c hc)

/-- A bus write changes no byte but those it stores to. -/
theorem State.busWrite_byteAt (s : State) (a : Word) (v : Byte) (k : Bool) (l : Location)
    (h : s.writesAt a l = false) : (s.busWrite a v k).byteAt l = s.byteAt l := by
  unfold State.writesAt at h
  unfold State.busWrite
  by_cases h1 : a < 0x2000
  · rw [if_pos h1] at h ⊢
    cases l <;> simp only [State.byteAt]
    exact Store.read_write_ne _ _ _ _ (fun hk => by simp [hk] at h)
  rw [if_neg h1] at h ⊢
  by_cases h2 : a < 0x4000
  · rw [if_pos h2] at h ⊢
    generalize (a &&& 7).toNat = j at h ⊢
    refine s.ppuRegWrite_byteAt j v l (fun hj hl => ?_) (fun hj => ?_)
    · subst hj; simp [hl] at h
    · subst hj; exact h
  rw [if_neg h2] at h ⊢
  by_cases h3 : a < 0x4014
  · rw [if_pos h3]; exact State.byteAt_congr rfl rfl rfl rfl rfl l
  rw [if_neg h3]
  by_cases h4 : a = 0x4014
  · rw [if_pos h4] at h ⊢
    exact (s.writeOamDma_keeps v).2.2 l h
  rw [if_neg h4] at h ⊢
  by_cases h5 : a = 0x4015
  · rw [if_pos h5]; exact State.byteAt_congr rfl rfl rfl rfl rfl l
  rw [if_neg h5]
  by_cases h6 : a = 0x4016
  · rw [if_pos h6]; exact State.byteAt_congr rfl rfl rfl rfl rfl l
  rw [if_neg h6]
  by_cases h7 : a = 0x4017
  · rw [if_pos h7]; exact State.byteAt_congr rfl rfl rfl rfl rfl l
  rw [if_neg h7]
  by_cases h8 : a < 0x4020
  · rw [if_pos h8]
  rw [if_neg h8] at h ⊢
  exact s.cartWrite_byteAt a v k l fun c hc => by simpa only [hc] using h

/-- A bus write changes no CPU register and no CPU event but NMI; it adds 513 to the halt at 0x4014 and nothing elsewhere
(60_exceptions.md R850). -/
theorem State.busWrite_keeps (s : State) (a : Word) (v : Byte) (k : Bool) :
    s.WriteKeeps (s.busWrite a v k) ∧ (s.busWrite a v k).halt = s.halt + (if a = 0x4014 then 513 else 0) := by
  unfold State.busWrite
  split
  · rename_i h; rw [if_neg (by bv_omega)]; exact ⟨by constructor <;> rfl, rfl⟩
  split
  · rename_i h
    rw [if_neg (by bv_omega)]
    unfold State.ppuRegWrite
    split
    all_goals first
      | exact ⟨by constructor <;> rfl, rfl⟩
      | exact ⟨.refl s, rfl⟩
      | skip
    unfold State.writeData
    have hw := s.ppuBusWrite_keeps (s.ppu.v.setWidth 16 &&& 0x3FFF) v
    exact ⟨⟨hw.1.cpu, hw.1.resetRequest, hw.1.crashed, hw.1.cpuCycles, hw.1.params, hw.1.stepCycles⟩, hw.2⟩
  split
  · rename_i h; rw [if_neg (by bv_omega)]; exact ⟨by constructor <;> rfl, rfl⟩
  split
  · rename_i h
    exact ⟨(s.writeOamDma_keeps v).1, (s.writeOamDma_keeps v).2.1⟩
  split
  · exact ⟨by constructor <;> rfl, rfl⟩
  split
  · exact ⟨by constructor <;> rfl, rfl⟩
  split
  · exact ⟨by constructor <;> rfl, rfl⟩
  split
  · exact ⟨.refl s, rfl⟩
  · unfold State.cartWrite
    split
    · exact ⟨by constructor <;> rfl, rfl⟩
    · exact ⟨.refl s, rfl⟩

end Sys2Proof.Machine
end

