-- ==== Sys2Proof/Laws/Operands.lean ====
section
/-! SUPPORT. One lemma per shared operation of the instructions: what the addressing modes, reads, stores, read-modify-writes
and the stack do, in terms of bus accesses alone. -/

namespace Sys2Proof.Machine

@[simp] theorem State.busRead_cpu (s : State) (a : Word) : (s.busRead a).2.cpu = s.cpu := (s.busRead_keeps a).cpu

@[simp] theorem State.busRead_stepCycles (s : State) (a : Word) : (s.busRead a).2.stepCycles = s.stepCycles :=
  (s.busRead_keeps a).stepCycles

@[simp] theorem State.busWrite_cpu (s : State) (a : Word) (v : Byte) (k : Bool) : (s.busWrite a v k).cpu = s.cpu :=
  (s.busWrite_keeps a v k).1.cpu

@[simp] theorem State.busWrite_stepCycles (s : State) (a : Word) (v : Byte) (k : Bool) :
    (s.busWrite a v k).stepCycles = s.stepCycles := (s.busWrite_keeps a v k).1.stepCycles

theorem State.setCpu_self (s : State) : s.setCpu s.cpu = s := rfl

theorem State.readPair_keeps (s : State) (a b : Word) : s.ReadKeeps (s.readPair a b).2 :=
  (s.busRead_keeps a).trans (State.busRead_keeps _ b)

/-- An addressing mode reads at most its pointer. -/
theorem State.resolve_keeps (s : State) (m : MemMode) : s.ReadKeeps (s.resolve m).st := by
  cases m <;> first | exact .refl s | exact s.readPair_keeps _ _

theorem State.load_keeps (s : State) (o : Operand) : s.ReadKeeps (s.load o).st := by
  cases o with
  | mem m => exact (s.resolve_keeps m).trans (State.busRead_keeps _ _)
  | _ => exact .refl s

@[simp] theorem State.resolve_cpu (s : State) (m : MemMode) : (s.resolve m).st.cpu = s.cpu := (s.resolve_keeps m).cpu

@[simp] theorem State.resolve_stepCycles (s : State) (m : MemMode) : (s.resolve m).st.stepCycles = s.stepCycles :=
  (s.resolve_keeps m).stepCycles

@[simp] theorem State.load_cpu (s : State) (o : Operand) : (s.load o).st.cpu = s.cpu := (s.load_keeps o).cpu

@[simp] theorem State.load_stepCycles (s : State) (o : Operand) : (s.load o).st.stepCycles = s.stepCycles :=
  (s.load_keeps o).stepCycles

/-- A read instruction: the state after its bus reads, with the registers `f` gives and its cycles counted. -/
theorem State.readOp_eq (s : State) (f : Cpu → Byte → Cpu) (o : Operand) (n : Nat) :
    s.readOp f o n = { (s.load o).st with
      cpu := f s.cpu (s.load o).val
      stepCycles := s.stepCycles + (n + crossCycle (s.load o).crossed) } := by
  simp only [State.readOp, State.addCycles, State.setCpu, State.load_cpu, State.load_stepCycles]

/-- A store: the state after its one bus write, with its cycles counted. -/
theorem State.storeOp_eq (s : State) (f : Cpu → Byte) (m : MemMode) (n : Nat) :
    s.storeOp f m n = { (s.resolve m).st.busWrite (s.resolve m).ea (f s.cpu) false with
      stepCycles := s.stepCycles + n } := by
  simp only [State.storeOp, State.addCycles, State.resolve_cpu, State.busWrite_stepCycles, State.resolve_stepCycles]

/-- A read-modify-write: one read, the old value written back, the new one written, the registers, the cycles. -/
theorem State.modifyOp_eq (s : State) (f : Cpu → Byte → Byte × Cpu) (g : Cpu → Byte → Cpu) (m : MemMode) (n : Nat) :
    s.modifyOp f g m n =
      let r := s.resolve m
      let v := r.st.busRead r.ea
      let q := f s.cpu v.1
      { (v.2.busWrite r.ea v.1 false).busWrite r.ea q.1 true with
        cpu := g q.2 q.1
        stepCycles := s.stepCycles + n } := by
  unfold State.modifyOp
  dsimp only
  rw [State.busWrite_setCpu]
  simp only [State.addCycles, State.setCpu, State.busWrite_cpu, State.busRead_cpu, State.resolve_cpu,
    State.busWrite_stepCycles, State.busRead_stepCycles, State.resolve_stepCycles]

/-! ## The stack -/

/-- The stack page is RAM (10_state.md R107). -/
theorem stackAddress_ram (sp : Byte) : stackAddress sp < 0x2000 := by
  have h : (zext16 sp).toNat < 256 := by simp only [zext16, BitVec.toNat_setWidth]; omega
  have k : (stackAddress sp).toNat < 512 := by
    unfold stackAddress
    rw [BitVec.toNat_or]
    exact Nat.or_lt_two_pow (n := 9) (by decide) (by omega)
  exact BitVec.lt_def.mpr (Nat.lt_trans k (by decide))

/-- Where the stack byte of SP stands in RAM. -/
theorem ramIndex_stackAddress (sp : Byte) : ramIndex (stackAddress sp) = 0x100 + sp.toNat := by
  revert sp; decide

/-- A push stores at 0x0100 | SP in RAM and decrements SP (10_state.md R105, R107). -/
theorem State.push_eq (s : State) (v : Byte) :
    s.push v = { s with
      ram := s.ram.write (ramIndex (stackAddress s.cpu.sp)) v
      cpu := { s.cpu with sp := s.cpu.sp - 1 } } := by
  rw [State.push, State.busWrite, if_pos (stackAddress_ram _)]
  rfl

/-- A pull increments SP and reads RAM at 0x0100 | SP (10_state.md R106, R107). -/
theorem State.pull_eq (s : State) :
    s.pull = (s.ram.read (ramIndex (stackAddress (s.cpu.sp + 1))),
      { s with cpu := { s.cpu with sp := s.cpu.sp + 1 } }) := by
  rw [State.pull, State.busRead, if_pos (stackAddress_ram _)]
  rfl

/-! ## Entry and return -/

/-- Two reads act the same whatever the CPU registers are. -/
theorem State.readPair_setCpu (s : State) (r : Cpu) (a b : Word) :
    (s.setCpu r).readPair a b = ((s.readPair a b).1, (s.readPair a b).2.setCpu r) := by
  simp only [State.readPair, State.busRead_setCpu]

/-- An entry (60_exceptions.md R825, R827): three bytes stored at the stack, SP less by 3, I set, PC from the vector. -/
theorem State.enter_eq (s : State) (vector ret : Word) (b : Bool) :
    s.enter vector ret b =
      let m := (s.ram.write (0x100 + s.cpu.sp.toNat) (hi ret)).write (0x100 + (s.cpu.sp - 1).toNat) (lo ret)
      let t := { s with ram := m.write (0x100 + (s.cpu.sp - 2).toNat) (s.cpu.pushedStatus b) }
      let r := t.read16 vector
      { r.2 with cpu := { s.cpu with sp := s.cpu.sp - 3, i := true, pc := r.1 } } := by
  have h1 : s.cpu.sp - 1 - 1 = s.cpu.sp - 2 := by bv_omega
  have h2 : s.cpu.sp - 2 - 1 = s.cpu.sp - 3 := by bv_omega
  have k := State.readPair_setCpu { s with ram := ((s.ram.write (0x100 + s.cpu.sp.toNat) (hi ret)).write
    (0x100 + (s.cpu.sp - 1).toNat) (lo ret)).write (0x100 + (s.cpu.sp - 2).toNat) (s.cpu.pushedStatus b) }
    { s.cpu with sp := s.cpu.sp - 3, i := true } vector (vector + 1)
  simp only [State.enter, State.pushWord, State.push_eq, ramIndex_stackAddress, h1, h2, State.read16, State.setCpu] at k ⊢
  have e : ∀ p : Byte, ({ s.cpu with sp := p } : Cpu).pushedStatus b = s.cpu.pushedStatus b := fun _ => rfl
  rw [e, k]
  rfl

/-- The return of RTI: three bytes read from the stack, SP more by 3, the flags and PC from them. -/
theorem State.leave_eq (s : State) :
    s.leave =
      let pulled := fun k : Byte => s.ram.read (0x100 + (s.cpu.sp + k).toNat)
      { s with cpu := { s.cpu.loadStatus (pulled 1) with sp := s.cpu.sp + 3, pc := word (pulled 3) (pulled 2) } } := by
  have h1 : s.cpu.sp + 1 + 1 = s.cpu.sp + 2 := by bv_omega
  have h2 : s.cpu.sp + 2 + 1 = s.cpu.sp + 3 := by bv_omega
  simp only [State.leave, State.pullWord, State.pull_eq, State.setPc, State.setCpu, ramIndex_stackAddress, h1, h2,
    Cpu.loadStatus]

end Sys2Proof.Machine
end

