-- ==== Sys2Proof/Laws/Shapes.lean ====
section
/-! SUPPORT. What `exec` answers, said once: each instruction is one of a few shapes, fixed by its mnemonic and its operand, run
with the base cycles of its row. A proof about an instruction or a group of them rewrites with `exec_eq` and never unfolds
`exec`. -/

namespace Sys2Proof.Machine

/-- The shapes of the instructions. -/
inductive Shape where
  | read (f : Cpu → Byte → Cpu) (o : Operand)
  | store (f : Cpu → Byte) (m : MemMode)
  | modify (f : Cpu → Byte → Byte × Cpu) (g : Cpu → Byte → Cpu) (m : MemMode)
  | implied (f : Cpu → Cpu)
  | branch (cond : Cpu → Bool) (b1 : Byte)
  | jump (w : Word)
  | jumpIndirect (w : Word)
  | call (w : Word)
  | ret
  | push (f : Cpu → Byte)
  | pullA
  | pullStatus
  | brk
  | rti

/-- What a shape does, with `n` base cycles. -/
def Shape.run (n : Nat) (s : State) : Shape → State
  | .read f o => s.readOp f o n
  | .store f m => s.storeOp f m n
  | .modify f g m => s.modifyOp f g m n
  | .implied f => s.impliedOp f n
  | .branch cond b1 => s.branchOp cond b1 n
  | .jump w => (s.setPc w).addCycles n
  | .jumpIndirect w => (s.jumpIndirect w).addCycles n
  | .call w => (s.callSub w).addCycles n
  | .ret => s.returnSub.addCycles n
  | .push f => (s.push (f s.cpu)).addCycles n
  | .pullA => s.pullA.addCycles n
  | .pullStatus => s.pullStatus.addCycles n
  | .brk => (s.enter 0xFFFE (s.cpu.pc + 1) true).addCycles n
  | .rti => s.leave.addCycles n

/-- A store to the operand's memory mode; a well-formed store has no other operand. -/
def Shape.storeTo (f : Cpu → Byte) : Operand → Shape
  | .mem m => .store f m
  | _ => .implied id

/-- A read-modify-write on memory or on the accumulator. -/
def Shape.modifyAt (f : Cpu → Byte → Byte × Cpu) (g : Cpu → Byte → Cpu) : Operand → Shape
  | .mem m => .modify f g m
  | _ => .implied (·.modifyA f)

/-- A branch; a well-formed branch has no other operand. -/
def Shape.branchTo (cond : Cpu → Bool) : Operand → Shape
  | .rel b1 => .branch cond b1
  | _ => .implied id

/-- A jump to the operand word, or through it. -/
def Shape.jumpTo : Operand → Shape
  | .mem (.abs w) => .jump w
  | .ind w => .jumpIndirect w
  | _ => .implied id

/-- A call of the operand word. -/
def Shape.callTo : Operand → Shape
  | .mem (.abs w) => .call w
  | _ => .implied id

/-- The shape of a mnemonic with an operand. -/
def shapeOf (o : Operand) : Mnemonic → Shape
  | .lda => .read Cpu.lda o
  | .ldx => .read Cpu.ldx o
  | .ldy => .read Cpu.ldy o
  | .sta => .storeTo Cpu.a o
  | .stx => .storeTo Cpu.x o
  | .sty => .storeTo Cpu.y o
  | .tax => .implied Cpu.tax
  | .tay => .implied Cpu.tay
  | .tsx => .implied Cpu.tsx
  | .txa => .implied Cpu.txa
  | .txs => .implied Cpu.txs
  | .tya => .implied Cpu.tya
  | .adc => .read Cpu.addCore o
  | .sbc => .read Cpu.sbc o
  | .cmp => .read Cpu.cmp o
  | .cpx => .read Cpu.cpx o
  | .cpy => .read Cpu.cpy o
  | .inc => .modifyAt Cpu.incByte Cpu.keep o
  | .dec => .modifyAt Cpu.decByte Cpu.keep o
  | .inx => .implied Cpu.inx
  | .iny => .implied Cpu.iny
  | .dex => .implied Cpu.dex
  | .dey => .implied Cpu.dey
  | .and => .read Cpu.and o
  | .ora => .read Cpu.ora o
  | .eor => .read Cpu.eor o
  | .bit => .read Cpu.bit o
  | .asl => .modifyAt Cpu.shiftL Cpu.keep o
  | .lsr => .modifyAt Cpu.shiftR Cpu.keep o
  | .rol => .modifyAt Cpu.rotL Cpu.keep o
  | .ror => .modifyAt Cpu.rotR Cpu.keep o
  | .jmp => .jumpTo o
  | .jsr => .callTo o
  | .rts => .ret
  | .bcc => .branchTo (fun r => !r.c) o
  | .bcs => .branchTo (fun r => r.c) o
  | .beq => .branchTo (fun r => r.z) o
  | .bmi => .branchTo (fun r => r.n) o
  | .bne => .branchTo (fun r => !r.z) o
  | .bpl => .branchTo (fun r => !r.n) o
  | .bvc => .branchTo (fun r => !r.v) o
  | .bvs => .branchTo (fun r => r.v) o
  | .pha => .push Cpu.a
  | .php => .push (·.pushedStatus true)
  | .pla => .pullA
  | .plp => .pullStatus
  | .clc => .implied Cpu.clc
  | .cld => .implied Cpu.cld
  | .cli => .implied Cpu.cli
  | .clv => .implied Cpu.clv
  | .sec => .implied Cpu.sec
  | .sed => .implied Cpu.sed
  | .sei => .implied Cpu.sei
  | .nop => .implied id
  | .brk => .brk
  | .rti => .rti
  | .alr => .read Cpu.alr o
  | .anc => .read Cpu.anc o
  | .arr => .read Cpu.arr o
  | .axs => .read Cpu.axs o
  | .lax => .read Cpu.lax o
  | .sax => .storeTo (fun r => r.a &&& r.x) o
  | .dcp => .modifyAt Cpu.decOnly Cpu.cmp o
  | .isc => .modifyAt Cpu.incOnly Cpu.sbc o
  | .rla => .modifyAt Cpu.rotL Cpu.and o
  | .rra => .modifyAt Cpu.rotR Cpu.addCore o
  | .slo => .modifyAt Cpu.shiftL Cpu.ora o
  | .sre => .modifyAt Cpu.shiftR Cpu.eor o
  | .skb => .implied id
  | .ign => .read Cpu.keep o

/-- Every instruction answers a next state: that of its shape, with the base cycles of its row. -/
theorem exec_eq (i : Instr) (s : State) :
    exec i s = .next ((shapeOf i.operand i.mnemonic).run i.baseCycles s) := by
  cases i <;> rfl

end Sys2Proof.Machine
end

