-- ==== Sys2Proof/Laws/Induction.lean ====
section
/-! SUPPORT. The induction behind every invariant, once: a property that bus accesses keep, and that does not look at the CPU
registers and events, is kept by every instruction; if the device clocks keep it too, by every step. -/

namespace Sys2Proof.Machine

/-- `t` differs from `s` at most in the CPU's registers and events, the host's inputs and the model's counters. -/
def State.SameDevices (s t : State) : Prop :=
  t.ram = s.ram ∧ t.ppu = s.ppu ∧ t.apu = s.apu ∧ t.cart = s.cart ∧ t.params = s.params

/-- A property of states that every bus access keeps and that the CPU registers and events do not decide. -/
structure BusClosed (P : State → Prop) : Prop where
  same : ∀ s t : State, s.SameDevices t → P s → P t
  read : ∀ (s : State) (a : Word), P s → P (s.busRead a).2
  write : ∀ (s : State) (a : Word) (v : Byte) (k : Bool), P s → P (s.busWrite a v k)

namespace BusClosed

variable {P : State → Prop} (h : BusClosed P)

include h

theorem setCpu (s : State) (r : Cpu) (hs : P s) : P (s.setCpu r) := h.same s _ ⟨rfl, rfl, rfl, rfl, rfl⟩ hs

theorem setPc (s : State) (a : Word) (hs : P s) : P (s.setPc a) := h.setCpu s _ hs

theorem addCycles (s : State) (n : Nat) (hs : P s) : P (s.addCycles n) := h.same s _ ⟨rfl, rfl, rfl, rfl, rfl⟩ hs

theorem readPair (s : State) (a b : Word) (hs : P s) : P (s.readPair a b).2 := h.read _ _ (h.read _ _ hs)

theorem resolve (s : State) (m : MemMode) (hs : P s) : P (s.resolve m).st := by
  cases m <;> first | exact hs | exact h.readPair _ _ _ hs

theorem load (s : State) (o : Operand) (hs : P s) : P (s.load o).st := by
  cases o with
  | mem m => exact h.read _ _ (h.resolve s m hs)
  | _ => exact hs

theorem push (s : State) (v : Byte) (hs : P s) : P (s.push v) := h.setCpu _ _ (h.write _ _ _ _ hs)

theorem pull (s : State) (hs : P s) : P s.pull.2 := h.read _ _ (h.setCpu _ _ hs)

theorem pushWord (s : State) (r : Word) (hs : P s) : P (s.pushWord r) := h.push _ _ (h.push _ _ hs)

theorem pullWord (s : State) (hs : P s) : P s.pullWord.2 := h.pull _ (h.pull _ hs)

theorem enter (s : State) (vector ret : Word) (b : Bool) (hs : P s) : P (s.enter vector ret b) :=
  h.setPc _ _ (h.readPair _ _ _ (h.setCpu _ _ (h.push _ _ (h.pushWord _ _ hs))))

theorem leave (s : State) (hs : P s) : P s.leave :=
  h.setPc _ _ (h.pullWord _ (h.setCpu _ _ (h.pull _ hs)))

theorem readOp (s : State) (f : Cpu → Byte → Cpu) (o : Operand) (n : Nat) (hs : P s) : P (s.readOp f o n) :=
  h.addCycles _ _ (h.setCpu _ _ (h.load _ _ hs))

theorem storeOp (s : State) (f : Cpu → Byte) (m : MemMode) (n : Nat) (hs : P s) : P (s.storeOp f m n) :=
  h.addCycles _ _ (h.write _ _ _ _ (h.resolve _ _ hs))

theorem modifyOp (s : State) (f : Cpu → Byte → Byte × Cpu) (g : Cpu → Byte → Cpu) (m : MemMode) (n : Nat)
    (hs : P s) : P (s.modifyOp f g m n) :=
  h.addCycles _ _ (h.setCpu _ _ (h.write _ _ _ _ (h.setCpu _ _ (h.write _ _ _ _ (h.read _ _ (h.resolve _ _ hs))))))

theorem branchOp (s : State) (cond : Cpu → Bool) (b1 : Byte) (n : Nat) (hs : P s) : P (s.branchOp cond b1 n) := by
  unfold State.branchOp
  split
  · exact h.addCycles _ _ (h.setPc _ _ hs)
  · exact h.addCycles _ _ hs

/-- Every shape keeps the property. -/
theorem shape (s : State) (x : Shape) (n : Nat) (hs : P s) : P (x.run n s) := by
  cases x with
  | read f o => exact h.readOp _ _ _ _ hs
  | store f m => exact h.storeOp _ _ _ _ hs
  | modify f g m => exact h.modifyOp _ _ _ _ _ hs
  | implied f => exact h.addCycles _ _ (h.setCpu _ _ hs)
  | branch c b1 => exact h.branchOp _ _ _ _ hs
  | jump w => exact h.addCycles _ _ (h.setPc _ _ hs)
  | jumpIndirect w => exact h.addCycles _ _ (h.setPc _ _ (h.readPair _ _ _ hs))
  | call w => exact h.addCycles _ _ (h.setPc _ _ (h.pushWord _ _ hs))
  | ret => exact h.addCycles _ _ (h.setPc _ _ (h.pullWord _ hs))
  | push f => exact h.addCycles _ _ (h.push _ _ hs)
  | pullA => exact h.addCycles _ _ (h.setCpu _ _ (h.pull _ hs))
  | pullStatus => exact h.addCycles _ _ (h.setCpu _ _ (h.pull _ hs))
  | brk => exact h.addCycles _ _ (h.enter _ _ _ _ hs)
  | rti => exact h.addCycles _ _ (h.leave _ hs)

/-- Every instruction keeps the property. -/
theorem exec (i : Instr) (s t : State) (hs : P s) (ht : Machine.exec i s = .next t) : P t := by
  rw [exec_eq] at ht
  injection ht with ht
  exact ht ▸ h.shape s _ _ hs

theorem fetch (s : State) (hs : P s) : P s.fetch.st := by
  unfold State.fetch
  dsimp only
  split
  · exact h.read _ _ hs
  · unfold State.fetchOperands
    split
    · exact h.setPc _ _ (h.read _ _ hs)
    · exact h.setPc _ _ (h.read _ _ (h.read _ _ hs))
    · exact h.setPc _ _ (h.read _ _ (h.read _ _ (h.read _ _ hs)))

theorem gate (s : State) (hs : P s) : P s.gate := by
  unfold State.gate
  split
  · exact h.addCycles _ _ (h.setPc _ _ (h.readPair _ _ _ (h.setCpu _ _ (h.same s _ ⟨rfl, rfl, rfl, rfl, rfl⟩ hs))))
  split
  · exact h.addCycles _ _ (h.enter _ _ _ _ (h.same s _ ⟨rfl, rfl, rfl, rfl, rfl⟩ hs))
  split
  · exact h.addCycles _ _ (h.enter _ _ _ _ hs)
  · exact hs

omit h in
theorem apuAdvance (ha : ∀ s, P s → P s.apuCycle) (n : Nat) (s : State) (hs : P s) : P (State.apuAdvance n s) := by
  induction n generalizing s with
  | zero => exact hs
  | succ n ih => exact ih _ (ha s hs)

omit h in
theorem ppuAdvance (hp : ∀ s, P s → P s.ppuTick) (n : Nat) (s : State) (hs : P s) : P (State.ppuAdvance n s) := by
  induction n generalizing s with
  | zero => exact hs
  | succ n ih => exact ih _ (hp s hs)

/-- If the device clocks keep the property as well, every step does. -/
theorem step (ha : ∀ s, P s → P s.apuCycle) (hp : ∀ s, P s → P s.ppuTick) (s t : State) (hs : P s)
    (ht : Machine.step s = .next t) : P t := by
  have advance : ∀ u : State, P u → P u.advance := fun u hu =>
    ppuAdvance hp _ _ (apuAdvance ha _ _ (h.same u _ ⟨rfl, rfl, rfl, rfl, rfl⟩ hu))
  unfold Machine.step at ht
  split at ht
  · cases ht
  · unfold State.systemStep at ht
    split at ht
    · injection ht with ht; exact ht ▸ hs
    split at ht
    · injection ht with ht
      exact ht ▸ advance _ (h.same s _ ⟨rfl, rfl, rfl, rfl, rfl⟩ hs)
    · unfold State.runInstruction at ht
      have hf : P s.openGate.fetch.st := h.fetch _ (h.gate _ (h.same s _ ⟨rfl, rfl, rfl, rfl, rfl⟩ hs))
      dsimp only at ht
      split at ht
      · injection ht with ht
        exact ht ▸ h.same s.openGate.fetch.st _ ⟨rfl, rfl, rfl, rfl, rfl⟩ hf
      · rename_i i hi
        rw [exec_eq] at ht
        injection ht with ht
        exact ht ▸ advance _ (h.exec i _ _ hf (exec_eq i _))

end BusClosed

end Sys2Proof.Machine
end

