-- ==== Sys2Proof/Laws/Invariant.lean ====
section
/-! SUPPORT. What keeps the invariant of `Sys2Proof.Safety`: every bus access, every APU cycle, every dot. -/

namespace Sys2Proof.Machine

/-! ## Parts -/

/-- The PPU's invariant looks at its memories, its position and secondary OAM only. -/
theorem Ppu.Inv.congr {p q : Ppu} (h : p.Inv) (ciram : q.ciram = p.ciram) (palette : q.palette = p.palette)
    (oam : q.oam = p.oam) (framebuffer : q.framebuffer = p.framebuffer) (frameOut : q.frameOut = p.frameOut)
    (scanline : q.scanline = p.scanline)
    (dot : q.dot = p.dot) (secondary : q.secondary = p.secondary) : q.Inv := by
  unfold Ppu.Inv Ppu.MemoriesInv Ppu.PositionInv
  rw [ciram, palette, oam, framebuffer, frameOut, scanline, dot, secondary]
  exact h

/-- The cartridge's invariant looks at its memories, their sizes and the mapper only. -/
theorem Cart.Inv.congr {c d : Cart} (h : c.Inv) (prg : d.prg = c.prg) (prgSize : d.prgSize = c.prgSize)
    (chr : d.chr = c.chr) (chrSize : d.chrSize = c.chrSize) (prgRam : d.prgRam = c.prgRam) (vram : d.vram = c.vram)
    (size : d.mapper.prgRamSize = c.mapper.prgRamSize) (mapper : d.mapper.Inv) : d.Inv := by
  unfold Cart.Inv
  rw [prg, prgSize, chr, chrSize, prgRam, vram, size]
  exact ⟨h.1, h.2.1, h.2.2.1, h.2.2.2.1, mapper⟩

/-- Replacing only the cartridge. -/
theorem State.Inv.setCart {s : State} (h : s.Inv) (d : Cart) (hd : d.Inv) : State.Inv { s with cart := some d } :=
  ⟨h.1, h.2.1, h.2.2.1, fun c hc => by injection hc with hc; exact hc ▸ hd⟩

/-- Replacing only the PPU. -/
theorem State.Inv.setPpu {s : State} (h : s.Inv) (p : Ppu) (hp : p.Inv) : State.Inv { s with ppu := p } :=
  ⟨h.1, hp, h.2.2.1, h.2.2.2⟩

/-- Replacing only the APU. -/
theorem State.Inv.setApu {s : State} (h : s.Inv) (u : Apu) (hu : u.Inv) : State.Inv { s with apu := u } :=
  ⟨h.1, h.2.1, hu, h.2.2.2⟩

theorem State.Inv.same {s t : State} (h : s.SameDevices t) (hs : s.Inv) : t.Inv := by
  obtain ⟨h1, h2, h3, h4, -⟩ := h
  unfold State.Inv
  rw [h1, h2, h3, h4]
  exact hs

/-! ## Mapper hooks -/

/-- A hook that keeps the mapper's invariant and its amount of PRG-RAM. -/
def Mapper.Quiet (f : Mapper → Mapper) : Prop :=
  ∀ m : Mapper, (m.Inv → (f m).Inv) ∧ (f m).prgRamSize = m.prgRamSize

theorem Mmc5.addressUpdate_exram (r : Mmc5) (a : Word) : (r.addressUpdate a).exram = r.exram :=
  (Mapper.mmc5 r).addressUpdate_exram a

theorem Mapper.quiet_addressUpdate (a : Word) : Mapper.Quiet (·.addressUpdate a) := by
  intro m
  cases m with
  | mmc5 r => exact ⟨fun h => (show (r.addressUpdate a).exram.Within 1024 from (r.addressUpdate_exram a).symm ▸ h), rfl⟩
  | _ => exact ⟨id, rfl⟩

theorem Mapper.quiet_notifyA12 (b : Bool) : Mapper.Quiet (·.notifyA12 b) := by
  intro m; cases m <;> exact ⟨id, rfl⟩

theorem Mapper.quiet_notifyA13 (b : Bool) : Mapper.Quiet (·.notifyA13 b) := by
  intro m; cases m <;> exact ⟨id, rfl⟩

theorem Mapper.quiet_latchAccess (a : Word) : Mapper.Quiet (·.latchAccess a) := by
  intro m; cases m <;> exact ⟨id, rfl⟩

theorem Mapper.quiet_onScanline (n : Nat) (b : Bool) : Mapper.Quiet (·.onScanline n b) := by
  intro m
  cases m with
  | mmc5 r =>
    refine ⟨fun h => ?_, rfl⟩
    show (r.onScanline n b).exram.Within 1024
    unfold Mmc5.onScanline
    split <;> exact h
  | _ => exact ⟨id, rfl⟩

theorem State.Inv.hook {s : State} (h : s.Inv) (d : Caps → Bool) {f : Mapper → Mapper} (hf : Mapper.Quiet f) :
    (s.hook d f).Inv := by
  unfold State.hook
  split
  · rename_i c hc
    have hi := h.2.2.2 c hc
    split
    · exact h.setCart _ (hi.congr rfl rfl rfl rfl rfl rfl (hf c.mapper).2 ((hf c.mapper).1 hi.2.2.2.2))
    · exact h
  · exact h

/-- A hook changes the cartridge only. -/
theorem State.hook_ppu (s : State) (d : Caps → Bool) (f : Mapper → Mapper) : (s.hook d f).ppu = s.ppu := by
  unfold State.hook; split
  · split <;> rfl
  · rfl

/-! ## The PPU bus -/

theorem State.Inv.drive {s : State} (h : s.Inv) (d : Driven) : (s.drive d).2.Inv := by
  unfold State.drive; split <;> exact h

theorem State.drive_ppu (s : State) (d : Driven) : (s.drive d).2.ppu = s.ppu := by
  unfold State.drive; split <;> rfl

theorem Cart.Inv.readNametable {c : Cart} (h : c.Inv) (ciram : Memory) (n : Word) : (c.readNametable ciram n).2.Inv := by
  unfold Cart.readNametable
  cases hm : c.mapper with
  | mmc5 r =>
    refine h.congr rfl rfl rfl rfl rfl rfl (by rw [hm]; rfl) ?_
    have hr : r.exram.Within 1024 := by have := h.2.2.2.2; rwa [hm] at this
    show (r.readNametable ciram n).2.exram.Within 1024
    unfold Mmc5.readNametable
    dsimp only
    split
    · split <;> exact hr
    · exact hr
  | _ => exact h

/-- A PPU-bus read keeps the invariant and changes the PPU not at all. -/
theorem State.Inv.ppuBusRead {s : State} (h : s.Inv) (a : Word) (use : PatternUse) :
    (s.ppuBusRead a use).2.Inv ∧ (s.ppuBusRead a use).2.ppu = s.ppu := by
  have hh : (s.addressHook (a &&& 0x3FFF)).Inv := h.hook _ (Mapper.quiet_addressUpdate _)
  have hp : (s.addressHook (a &&& 0x3FFF)).ppu = s.ppu := s.hook_ppu _ _
  unfold State.ppuBusRead
  dsimp only
  generalize s.addressHook (a &&& 0x3FFF) = t at hh hp
  rw [← hp]
  split
  · unfold State.patternRead
    split
    · exact ⟨hh, rfl⟩
    · exact ⟨hh.drive _, t.drive_ppu _⟩
  · split
    · unfold State.nametableRead
      split
      · rename_i c hc
        exact ⟨hh.setCart _ ((hh.2.2.2 c hc).readNametable _ _), rfl⟩
      · exact ⟨hh.drive _, t.drive_ppu _⟩
    · exact ⟨hh, rfl⟩

theorem Cart.chrByteIndex_lt (c : Cart) (b z o : Nat) (h : 0 < c.chrSize) : c.chrByteIndex b z o < c.chrSize :=
  Nat.mod_lt _ h

theorem Mmc1.chrIndex_lt (r : Mmc1) (c : Cart) (n : Nat) (h : 0 < c.chrSize) : r.chrIndex c n < c.chrSize := by
  unfold Mmc1.chrIndex
  repeat' split
  all_goals exact c.chrByteIndex_lt _ _ _ h

theorem Mmc3.chrIndex_lt (r : Mmc3) (c : Cart) (n : Nat) (h : 0 < c.chrSize) : r.chrIndex c n < c.chrSize := by
  unfold Mmc3.chrIndex
  dsimp only
  repeat' split
  all_goals exact c.chrByteIndex_lt _ _ _ h

theorem Mmc24.chrIndex_lt (r : Mmc24) (c : Cart) (n : Nat) (h : 0 < c.chrSize) : r.chrIndex c n < c.chrSize := by
  unfold Mmc24.chrIndex
  repeat' split
  all_goals exact c.chrByteIndex_lt _ _ _ h

theorem Cart.chrIndex_lt (c : Cart) (use : PatternUse) (a : Word) (h : 0 < c.chrSize) :
    c.chrIndex use a < c.chrSize := by
  unfold Cart.chrIndex
  cases c.mapper <;> dsimp only
  case mmc1 r => exact r.chrIndex_lt c _ h
  case mmc3 r => exact r.chrIndex_lt c _ h
  case mmc2 r => exact r.chrIndex_lt c _ h
  case mmc4 r => exact r.chrIndex_lt c _ h
  all_goals first
    | exact c.chrByteIndex_lt _ _ _ h
    | (unfold Mmc5.chrIndex; dsimp only; repeat' split
       all_goals exact c.chrByteIndex_lt _ _ _ h)

theorem Mirroring.page_lt (m : Mirroring) (q : Nat) (h : q < 4) : m.page q < 4 := by
  cases m <;> simp only [Mirroring.page] <;> omega

theorem Cart.Inv.ppuWrite {c : Cart} (h : c.Inv) (a : Word) (v : Byte) : (c.ppuWrite a v).Inv := by
  unfold Cart.ppuWrite
  split
  · exact ⟨h.1, ⟨h.2.1.1, h.2.1.2.write _ _ (c.chrIndex_lt .data a h.2.1.1)⟩, h.2.2⟩
  · exact h

/-- A nametable write keeps CIRAM's size and the cartridge's invariant. -/
theorem Cart.Inv.writeNametable {c : Cart} (h : c.Inv) (ciram : Memory) (hc : ciram.Within 2048) (n : Word) (v : Byte) :
    (c.writeNametable ciram n v).1.Within 2048 ∧ (c.writeNametable ciram n v).2.Inv := by
  have ho : n.toNat % 0x400 < 0x400 := Nat.mod_lt _ (by decide)
  unfold Cart.writeNametable
  cases hm : c.mapper with
  | mmc5 r =>
    have hr : r.exram.Within 1024 := by have := h.2.2.2.2; rwa [hm] at this
    have key : ∀ q : Mmc5, q.exram.Within 1024 → Cart.Inv { c with mapper := .mmc5 q } := fun q hq =>
      h.congr rfl rfl rfl rfl rfl rfl (by rw [hm]; rfl) hq
    dsimp only
    unfold Mmc5.writeNametable
    dsimp only
    split
    · exact ⟨hc.write _ _ (by omega), key r hr⟩
    · exact ⟨hc.write _ _ (by omega), key r hr⟩
    · split
      · exact ⟨hc, key _ (hr.write _ _ ho)⟩
      · exact ⟨hc, key r hr⟩
    · exact ⟨hc, key r hr⟩
  | _ =>
    dsimp only
    split
    · rename_i hk
      exact ⟨hc.write _ _ hk, h⟩
    · refine ⟨hc, h.1, h.2.1, ?_, h.2.2.2.1.write _ _ (Nat.mod_lt _ (by decide)), ?_⟩
      · have := h.2.2.1; rw [hm] at this; exact this
      · have := h.2.2.2.2; rw [hm] at this; exact this

theorem paletteIndex_lt (n : Nat) : paletteIndex n < 32 := by
  unfold paletteIndex
  dsimp only
  split <;> omega

theorem State.Inv.ppuBusWrite {s : State} (h : s.Inv) (a : Word) (v : Byte) : (s.ppuBusWrite a v).Inv := by
  have hh : (s.addressHook (a &&& 0x3FFF)).Inv := h.hook _ (Mapper.quiet_addressUpdate _)
  unfold State.ppuBusWrite
  dsimp only
  generalize s.addressHook (a &&& 0x3FFF) = t at hh
  split
  · unfold State.patternWrite
    split
    · rename_i c hc
      exact hh.setCart _ ((hh.2.2.2 c hc).ppuWrite _ _)
    · exact hh
  · split
    · unfold State.nametableWrite
      split
      · rename_i c hc
        have hw := (hh.2.2.2 c hc).writeNametable _ hh.2.1.1.1 (nametableAddress (a &&& 0x3FFF)) v
        exact (hh.setCart _ hw.2).setPpu _ ⟨⟨hw.1, hh.2.1.1.2⟩, hh.2.1.2⟩
      · exact hh
    · exact hh.setPpu _ ⟨⟨hh.2.1.1.1, hh.2.1.1.2.1.write _ _ (paletteIndex_lt _), hh.2.1.1.2.2⟩, hh.2.1.2⟩

/-! ## The CPU bus -/

theorem State.Inv.openBus {s : State} (h : s.Inv) : s.openBus.2.Inv := h.drive _

theorem State.Inv.readStatus {s : State} (h : s.Inv) : s.readStatus.2.Inv := by
  have hp : Ppu.Inv { s.ppu with vblank := false, w := false } := h.2.1.congr rfl rfl rfl rfl rfl rfl rfl rfl
  exact State.Inv.drive (h.setPpu _ hp) _

theorem State.Inv.readData {s : State} (h : s.Inv) : s.readData.2.Inv := by
  unfold State.readData
  dsimp only
  split
  · exact (h.ppuBusRead _ _).1.setPpu _ ((h.ppuBusRead _ _).1.2.1.congr rfl rfl rfl rfl rfl rfl rfl rfl)
  · have h2 := ((h.ppuBusRead (s.ppu.v.setWidth 16 &&& 0x3FFF) .data).1.ppuBusRead
      ((s.ppu.v.setWidth 16 &&& 0x3FFF) - 0x1000) .data).1
    exact h2.setPpu _ (h2.2.1.congr rfl rfl rfl rfl rfl rfl rfl rfl)

theorem State.Inv.ppuRegRead {s : State} (h : s.Inv) (k : Nat) : (s.ppuRegRead k).2.Inv := by
  unfold State.ppuRegRead
  split
  · exact h.readStatus
  · exact h
  · exact h.readData
  · exact h.openBus

theorem Mmc5.readRegister_exram (r : Mmc5) (a : Word) : (r.readRegister a).2.exram = r.exram := by
  unfold Mmc5.readRegister
  repeat' split
  all_goals rfl

theorem Cart.Inv.cpuRead {c : Cart} (h : c.Inv) (a : Word) : (c.cpuRead a).2.Inv := by
  unfold Cart.cpuRead
  split
  · exact h
  · cases hm : c.mapper with
    | mmc5 r =>
      have hr : r.exram.Within 1024 := by have := h.2.2.2.2; rwa [hm] at this
      exact h.congr rfl rfl rfl rfl rfl rfl (by rw [hm]; rfl)
        (show (r.readRegister a).2.exram.Within 1024 from (r.readRegister_exram a).symm ▸ hr)
    | _ => exact h

theorem State.Inv.cartRead {s : State} (h : s.Inv) (a : Word) : (s.cartRead a).2.Inv := by
  unfold State.cartRead
  split
  · rename_i c hc
    exact State.Inv.drive (h.setCart _ ((h.2.2.2 c hc).cpuRead a)) _
  · exact h.openBus

/-- Replacing only the controller ports. -/
theorem State.Inv.setPads {s : State} (h : s.Inv) (p : Pads) : State.Inv { s with pads := p } := h

/-- A CPU-bus read keeps the invariant. -/
theorem State.Inv.busRead {s : State} (h : s.Inv) (a : Word) : (s.busRead a).2.Inv := by
  unfold State.busRead
  split
  · exact h
  split
  · exact h.ppuRegRead _
  split
  · have hu : Apu.Inv { s.apu with frame := { s.apu.frame with irq := false } } := h.2.2.1
    exact State.Inv.drive (h.setApu _ hu) _
  split
  · exact State.Inv.drive (h.setPads _) _
  split
  · exact State.Inv.drive (h.setPads _) _
  split
  · exact h.openBus
  · exact h.cartRead a

theorem State.Inv.writeCtrl {s : State} (h : s.Inv) (d : Byte) : (s.writeCtrl d).Inv :=
  State.Inv.same (s := { s with ppu := (s.writeCtrl d).ppu }) ⟨rfl, rfl, rfl, rfl, rfl⟩
    (h.setPpu _ (h.2.1.congr rfl rfl rfl rfl rfl rfl rfl rfl))

theorem State.Inv.ppuRegWrite {s : State} (h : s.Inv) (k : Nat) (d : Byte) : (s.ppuRegWrite k d).Inv := by
  have hb := h.ppuBusWrite (s.ppu.v.setWidth 16 &&& 0x3FFF) d
  unfold State.ppuRegWrite
  split
  · exact h.writeCtrl d
  · exact h.setPpu _ (h.2.1.congr rfl rfl rfl rfl rfl rfl rfl rfl)
  · exact h.setPpu _ (h.2.1.congr rfl rfl rfl rfl rfl rfl rfl rfl)
  · exact h.setPpu _ ⟨⟨h.2.1.1.1, h.2.1.1.2.1, h.2.1.1.2.2.1.write _ _ s.ppu.oamAddr.isLt, h.2.1.1.2.2.2⟩, h.2.1.2⟩
  · refine h.setPpu _ ?_
    unfold Ppu.writeScroll
    dsimp only
    split <;> exact h.2.1.congr rfl rfl rfl rfl rfl rfl rfl rfl
  · refine h.setPpu _ ?_
    unfold Ppu.writeAddr
    dsimp only
    split <;> exact h.2.1.congr rfl rfl rfl rfl rfl rfl rfl rfl
  · exact hb.setPpu _ (hb.2.1.congr rfl rfl rfl rfl rfl rfl rfl rfl)
  · exact h

theorem State.Inv.oamCopy {s : State} (h : s.Inv) (d : Byte) (n : Nat) : (State.oamCopy d n s).Inv := by
  induction n generalizing s with
  | zero => exact h
  | succ n ih =>
    have hr := h.busRead (word d (BitVec.ofNat 8 (255 - n)))
    exact ih (hr.setPpu _ ⟨⟨hr.2.1.1.1, hr.2.1.1.2.1, hr.2.1.1.2.2.1.write _ _ (BitVec.isLt _), hr.2.1.1.2.2.2⟩, hr.2.1.2⟩)

theorem Apu.writeChannel_kept (u : Apu) (k : Nat) (d : Byte) :
    (u.writeChannel k d).noise.lfsr = u.noise.lfsr ∧ (u.writeChannel k d).dmc.bits = u.dmc.bits ∧
      (u.writeChannel k d).frame = u.frame ∧ (u.writeChannel k d).out = u.out := by
  unfold Apu.writeChannel
  split
  · exact ⟨rfl, rfl, rfl, rfl⟩
  · exact ⟨rfl, rfl, rfl, rfl⟩
  · exact ⟨rfl, rfl, rfl, rfl⟩
  · refine ⟨?_, rfl, rfl, rfl⟩
    show (u.noise.write (k % 4) d).lfsr = _
    unfold Noise.write
    split <;> rfl
  · refine ⟨rfl, ?_, rfl, rfl⟩
    show (u.dmc.write (k % 4) d).bits = _
    unfold Dmc.write
    split <;> rfl

/-- The APU's invariant looks at four things only. -/
theorem Apu.Inv.congr {u w : Apu} (h : u.Inv) (lfsr : w.noise.lfsr = u.noise.lfsr) (bits : w.dmc.bits = u.dmc.bits)
    (frame : w.frame.cycle = u.frame.cycle ∧ w.frame.mode = u.frame.mode) (out : w.out = u.out) : w.Inv := by
  unfold Apu.Inv
  rw [lfsr, bits, frame.1, frame.2, out]
  exact h

theorem Apu.Inv.writeEnables {u : Apu} (h : u.Inv) (d : Byte) : (u.writeEnables d).Inv := by
  refine h.congr rfl ?_ ⟨rfl, rfl⟩ rfl
  unfold Apu.writeEnables
  dsimp only
  repeat' split
  all_goals rfl

theorem Apu.Inv.writeFrame {u : Apu} (h : u.Inv) (d : Byte) : (u.writeFrame d).Inv := by
  have h0 : ∀ w : Apu, w.noise.lfsr = u.noise.lfsr → w.dmc.bits = u.dmc.bits → w.frame.cycle = 0 → w.out = u.out →
      w.Inv := fun w a b c e => ⟨a ▸ h.1, b ▸ h.2.1, by rw [c]; split <;> omega, e ▸ h.2.2.2⟩
  unfold Apu.writeFrame
  dsimp only
  split <;> exact h0 _ rfl rfl rfl rfl

theorem Mmc1.write_inv {r : Mmc1} (h : r.srN ≤ 4) (a : Word) (d : Byte) (k : Bool) : (r.write a d k).srN ≤ 4 := by
  unfold Mmc1.write
  dsimp only
  split
  · exact h
  split
  · exact Nat.zero_le _
  split
  · split <;> exact Nat.zero_le _
  · show r.srN + 1 ≤ 4
    omega

theorem Mapper.write_quiet (m : Mapper) (a : Word) (d : Byte) (k : Bool) :
    (m.Inv → (m.write a d k).Inv) ∧ (m.write a d k).prgRamSize = m.prgRamSize := by
  cases m with
  | mmc1 r => exact ⟨fun h => Mmc1.write_inv h a d k, rfl⟩
  | mmc5 r => exact ⟨id, rfl⟩
  | _ => exact ⟨fun _ => trivial, rfl⟩

theorem Mmc5.write_within {r : Mmc5} (h : r.exram.Within 1024) (a : Word) (d : Byte) : (r.write a d).exram.Within 1024 := by
  unfold Mmc5.write
  split
  · have : (r.writeControl a d).exram = r.exram := by
      unfold Mmc5.writeControl; dsimp only; repeat' split
      all_goals rfl
    exact this ▸ h
  split
  · have : (r.writeBank a d).exram = r.exram := by
      unfold Mmc5.writeBank; repeat' split
      all_goals rfl
    exact this ▸ h
  split
  · have : (r.writeIrq a d).exram = r.exram := by
      unfold Mmc5.writeIrq; repeat' split
      all_goals rfl
    exact this ▸ h
  split
  · rename_i h1 h2
    refine h.write _ _ ?_
    have h3 : 0x5C00 ≤ a := by simpa using h1
    have h4 := h2.1
    bv_omega
  · exact h

theorem Mmc5.slot_ram (r : Mmc5) (c : Cart) (k n o i : Nat) (h : r.slot c k n o = .ram i) : i < 65536 := by
  unfold Mmc5.slot at h
  dsimp only at h
  split at h
  · cases h
  · injection h with h
    omega

theorem Mmc5.prgTarget_ram (r : Mmc5) (c : Cart) (a : Word) (i : Nat) (h : r.prgTarget c a = .ram i) : i < 65536 := by
  unfold Mmc5.prgTarget at h
  repeat' split at h
  all_goals exact r.slot_ram c _ _ _ _ h

theorem Cart.prgTarget_ram (c : Cart) (a : Word) (i : Nat) (ha : 0x6000 ≤ a) (h : c.prgTarget a = .ram i) :
    i < c.mapper.prgRamSize := by
  unfold Cart.prgTarget at h
  cases hm : c.mapper with
  | mmc5 r => rw [hm] at h; exact r.prgTarget_ram c a i h
  | _ =>
    rw [hm] at h
    dsimp only at h
    split at h
    · injection h with h
      show i < 8192
      have : a.toNat < 0x8000 := by assumption
      bv_omega
    · cases h

theorem Cart.Inv.cpuWrite {c : Cart} (h : c.Inv) (a : Word) (d : Byte) (k : Bool) : (c.cpuWrite a d k).Inv := by
  unfold Cart.cpuWrite
  split
  · cases hm : c.mapper with
    | mmc5 r =>
      have hr : r.exram.Within 1024 := by have := h.2.2.2.2; rwa [hm] at this
      exact h.congr rfl rfl rfl rfl rfl rfl (by rw [hm]; rfl) (Mmc5.write_within hr a d)
    | _ => exact h
  · rename_i ha
    split
    · rename_i i hi
      split
      · exact ⟨h.1, h.2.1, h.2.2.1.write _ _ (c.prgTarget_ram a i (by simpa using ha) hi), h.2.2.2⟩
      · exact h
    · exact h.congr rfl rfl rfl rfl rfl rfl (c.mapper.write_quiet a d k).2 ((c.mapper.write_quiet a d k).1 h.2.2.2.2)

/-- A CPU-bus write keeps the invariant. -/
theorem State.Inv.busWrite {s : State} (h : s.Inv) (a : Word) (v : Byte) (k : Bool) : (s.busWrite a v k).Inv := by
  unfold State.busWrite
  split
  · refine ⟨h.1.write _ _ ?_, h.2⟩
    unfold ramIndex
    exact Nat.lt_of_le_of_lt (by rw [BitVec.toNat_and]; exact Nat.and_le_right) (by decide : (0x07FF : Word).toNat < 2048)
  split
  · exact h.ppuRegWrite _ _
  split
  · have hk := s.apu.writeChannel_kept (a - 0x4000).toNat v
    exact h.setApu _ (h.2.2.1.congr hk.1 hk.2.1 ⟨by rw [hk.2.2.1], by rw [hk.2.2.1]⟩ hk.2.2.2)
  split
  · exact State.Inv.same (s := State.oamCopy v 256 s) ⟨rfl, rfl, rfl, rfl, rfl⟩ (h.oamCopy v 256)
  split
  · exact h.setApu _ (h.2.2.1.writeEnables v)
  split
  · exact h.setPads _
  split
  · exact h.setApu _ (h.2.2.1.writeFrame v)
  split
  · exact h
  · unfold State.cartWrite
    split
    · rename_i c hc
      exact h.setCart _ ((h.2.2.2 c hc).cpuWrite a v k)
    · exact h

/-- Bus accesses keep the invariant, and the CPU registers do not decide it. -/
theorem State.Inv.busClosed : BusClosed State.Inv :=
  ⟨fun _ _ h hs => State.Inv.same h hs, fun _ a h => h.busRead a, fun _ a v k h => h.busWrite a v k⟩

/-! ## The APU's clock -/

/-- An LFSR that is not 0 stays so: its low bit is fed back or another bit survives the shift. -/
theorem lfsrClock_ne_zero (l : BitVec 15) (mode : Bool) (h : l ≠ 0) : lfsrClock l mode ≠ 0 := by
  intro h0
  apply h
  unfold lfsrClock at h0
  dsimp only at h0
  have bit : ∀ k, (((l >>> 1) ||| (if (l.getLsbD 0 ^^ (if mode then l.getLsbD 6 else l.getLsbD 1)) then (0x4000 : BitVec 15)
      else 0)) : BitVec 15).getLsbD k = false := fun k => by rw [h0]; simp
  have low : ∀ k, k < 14 → l.getLsbD (k + 1) = false := by
    intro k hk
    have hb := bit k
    rw [BitVec.getLsbD_or, Bool.or_eq_false_iff, BitVec.getLsbD_ushiftRight, Nat.add_comm] at hb
    exact hb.1
  have top := bit 14
  rw [BitVec.getLsbD_or, Bool.or_eq_false_iff, low 0 (by omega), low 5 (by omega)] at top
  have zero : l.getLsbD 0 = false := by
    cases hl : l.getLsbD 0 with
    | false => rfl
    | true => rw [hl] at top; simp at top
  apply BitVec.eq_of_getLsbD_eq
  intro i hi
  cases i with
  | zero => simpa using zero
  | succ i => rw [low i (by omega)]; simp

theorem Apu.Inv.frameTick {u : Apu} (h : u.Inv) : u.frameTick.Inv := by
  have key : ∀ w : Apu, w.noise.lfsr = u.noise.lfsr → w.dmc.bits = u.dmc.bits →
      w.frame.cycle ≤ (if w.frame.mode then 37281 else 29829) → w.out = u.out → w.Inv :=
    fun w a b c e => ⟨a ▸ h.1, b ▸ h.2.1, c, e ▸ h.2.2.2⟩
  have hc := h.2.2.1
  unfold Apu.frameTick
  dsimp only
  cases hm : u.frame.mode <;> rw [hm] at hc <;> simp only [Bool.false_eq_true, ↓reduceIte] at hc ⊢
  all_goals
    repeat' split
    all_goals exact key _ rfl rfl (by
      first
        | (show u.frame.cycle + 1 ≤ 29829; omega)
        | (show u.frame.cycle + 1 ≤ 37281; omega)
        | exact Nat.zero_le _) rfl

theorem Dmc.timerClock_bits (d : Dmc) (h : 1 ≤ d.bits ∧ d.bits ≤ 8) :
    1 ≤ d.timerClock.bits ∧ d.timerClock.bits ≤ 8 := by
  unfold Dmc.timerClock
  dsimp only
  split
  · exact h
  split
  · split <;> (show 1 ≤ 8 ∧ 8 ≤ 8; decide)
  · show 1 ≤ d.bits - 1 ∧ d.bits - 1 ≤ 8
    omega

theorem Apu.Inv.timers {u : Apu} (h : u.Inv) : u.timers.Inv := by
  have hb := u.dmc.timerClock_bits h.2.1
  have hl : u.noise.timerClock.lfsr ≠ 0 := by
    unfold Noise.timerClock
    split
    · exact lfsrClock_ne_zero _ _ h.1
    · exact h.1
  unfold Apu.timers
  dsimp only
  split
  · exact ⟨hl, hb, h.2.2⟩
  · exact ⟨h.1, hb, h.2.2⟩

theorem Dmc.accept_bits (d : Dmc) (v : Byte) : (d.accept v).bits = d.bits := by
  unfold Dmc.accept
  dsimp only
  repeat' split
  all_goals rfl

theorem State.Inv.dmcReader {s : State} (h : s.Inv) : s.dmcReader.Inv := by
  unfold State.dmcReader
  dsimp only
  split
  · have hr := h.busRead s.apu.dmc.curAddr
    exact hr.setApu _ (hr.2.2.1.congr rfl (Dmc.accept_bits _ _) ⟨rfl, rfl⟩ rfl)
  · exact h

theorem AudioOut.cycle_ring (rnd : Rat → Rat) (a b : Nat) (o : AudioOut) (m : Rat) (h : o.ring.length ≤ ringCapacity) :
    (o.cycle rnd a b m).ring.length ≤ ringCapacity := by
  unfold AudioOut.cycle
  dsimp only
  split
  · unfold AudioOut.emit AudioOut.deliver
    dsimp only
    split
    · rename_i hl
      simpa using Nat.succ_le_of_lt hl
    · exact h
  · exact h

theorem State.Inv.apuCycle {s : State} (h : s.Inv) : s.apuCycle.Inv := by
  have h1 : State.Inv { s with apu := s.apu.frameTick.timers } := h.setApu _ h.2.2.1.frameTick.timers
  have h2 := h1.dmcReader
  exact h2.setApu _ ⟨h2.2.2.1.1, h2.2.2.1.2.1, h2.2.2.1.2.2.1, AudioOut.cycle_ring _ _ _ _ _ h2.2.2.1.2.2.2⟩

/-! ## The PPU's clock -/

/-- The same block with parts of the PPU that no invariant looks at replaced. -/
theorem State.Inv.setPpuCongr {s : State} (h : s.Inv) (p : Ppu) (ciram : p.ciram = s.ppu.ciram)
    (palette : p.palette = s.ppu.palette) (oam : p.oam = s.ppu.oam) (framebuffer : p.framebuffer = s.ppu.framebuffer)
    (frameOut : p.frameOut = s.ppu.frameOut)
    (scanline : p.scanline = s.ppu.scanline) (dot : p.dot = s.ppu.dot) (secondary : p.secondary = s.ppu.secondary) :
    State.Inv { s with ppu := p } :=
  h.setPpu _ (h.2.1.congr ciram palette oam framebuffer frameOut scanline dot secondary)

/-- The invariant, with the position the dot started at. -/
def State.At (s : State) (scanline dot : Nat) : Prop := s.Inv ∧ s.ppu.scanline = scanline ∧ s.ppu.dot = dot

theorem State.At.hook {s : State} {l d : Nat} (h : s.At l d) (c : Caps → Bool) {f : Mapper → Mapper} (hf : Mapper.Quiet f) :
    (s.hook c f).At l d :=
  ⟨h.1.hook c hf, by rw [State.hook_ppu]; exact h.2.1, by rw [State.hook_ppu]; exact h.2.2⟩

theorem State.At.ppuBusRead {s : State} {l d : Nat} (h : s.At l d) (a : Word) (use : PatternUse) :
    (s.ppuBusRead a use).2.At l d :=
  ⟨(h.1.ppuBusRead a use).1, by rw [(h.1.ppuBusRead a use).2]; exact h.2.1,
    by rw [(h.1.ppuBusRead a use).2]; exact h.2.2⟩

theorem State.At.patternFetch {s : State} {l d : Nat} (h : s.At l d) (a : Word) : (s.patternFetch a).2.At l d :=
  ((h.ppuBusRead a _).hook _ (Mapper.quiet_notifyA12 _)).hook _ (Mapper.quiet_latchAccess _)

theorem State.At.setBg {s : State} {l d : Nat} (h : s.At l d) (b : BgPipe) : (s.setBg b).At l d :=
  ⟨h.1.setPpuCongr _ rfl rfl rfl rfl rfl rfl rfl rfl, h.2⟩

theorem State.At.setV {s : State} {l d : Nat} (h : s.At l d) (v : BitVec 15) :
    State.At { s with ppu := { s.ppu with v := v } } l d :=
  ⟨h.1.setPpuCongr _ rfl rfl rfl rfl rfl rfl rfl rfl, h.2⟩

theorem State.At.unusedRead {s : State} {l d : Nat} (h : s.At l d) : s.unusedRead.At l d := h.ppuBusRead _ _

theorem State.At.bgFetch {s : State} {l d : Nat} (h : s.At l d) : s.bgFetch.At l d := by
  unfold State.bgFetch
  split
  · exact (h.ppuBusRead _ _).setBg _
  · exact (h.ppuBusRead _ _).setBg _
  · exact (h.patternFetch _).setBg _
  · exact (h.patternFetch _).setBg _
  · exact h.setV _
  · exact h

theorem State.At.bgDot {s : State} {l d : Nat} (h : s.At l d) : s.bgDot.At l d := by
  have h1 : State.At { s with ppu := s.ppu.shiftDotActions } l d :=
    ⟨h.1.setPpuCongr _ rfl rfl rfl rfl rfl rfl rfl rfl, h.2⟩
  have h2 : State.At (if (1 ≤ s.ppu.dot ∧ s.ppu.dot ≤ 256) ∨ (321 ≤ s.ppu.dot ∧ s.ppu.dot ≤ 336)
      then State.bgFetch { s with ppu := s.ppu.shiftDotActions } else { s with ppu := s.ppu.shiftDotActions }) l d := by
    split
    · exact h1.bgFetch
    · exact h1
  unfold State.bgDot
  dsimp only
  split
  · exact (h2.setV _).unusedRead
  · exact h2.setV _

theorem Ppu.Inv.evaluate {p : Ppu} (h : p.Inv) : p.evaluate.Inv := by
  unfold Ppu.evaluate
  dsimp only
  split
  · exact ⟨h.1, h.2.1, h.2.2.1, Nat.zero_le _, fun _ he => nomatch he⟩
  · refine ⟨h.1, h.2.1, h.2.2.1, ?_, ?_⟩
    · show ((p.inRange.take 8).map p.spriteEntry).length ≤ 8
      rw [List.length_map, List.length_take]
      exact Nat.min_le_left _ _
    · intro e he
      obtain ⟨i, hi, rfl⟩ := List.mem_map.mp he
      exact List.mem_range.mp (List.mem_filter.mp (List.mem_of_mem_take hi)).1

theorem Ppu.evaluate_position (p : Ppu) : p.evaluate.scanline = p.scanline ∧ p.evaluate.dot = p.dot := by
  unfold Ppu.evaluate
  dsimp only
  split <;> exact ⟨rfl, rfl⟩

theorem State.At.spriteLow {s : State} {l d : Nat} (h : s.At l d) : s.spriteLow.2.At l d := by
  unfold State.spriteLow
  split
  · exact h
  · exact ⟨h.1.same ⟨rfl, rfl, rfl, rfl, rfl⟩, h.2⟩

theorem State.At.spriteFetch {s : State} {l d : Nat} (h : s.At l d) : s.spriteFetch.At l d := by
  unfold State.spriteFetch
  dsimp only
  split
  · exact h.unusedRead
  · exact h.unusedRead
  · have hp := h.patternFetch (s.ppu.spriteAddress ((s.ppu.dot - 257) / 8))
    exact ⟨hp.1.setPpuCongr _ rfl rfl rfl rfl rfl rfl rfl rfl, hp.2⟩
  · have hp := (h.patternFetch (s.ppu.spriteAddress ((s.ppu.dot - 257) / 8) ||| 8)).spriteLow
    exact ⟨hp.1.setPpuCongr _ rfl rfl rfl rfl rfl rfl rfl rfl, hp.2⟩
  · exact h

theorem State.At.spriteDot {s : State} {l d : Nat} (h : s.At l d) : s.spriteDot.At l d := by
  have h1 : State.At (if s.ppu.dot = 257 then { s with ppu := s.ppu.evaluate } else s) l d := by
    split
    · exact ⟨h.1.setPpu _ h.1.2.1.evaluate, s.ppu.evaluate_position.1 ▸ h.2.1, s.ppu.evaluate_position.2 ▸ h.2.2⟩
    · exact h
  unfold State.spriteDot
  dsimp only
  generalize (if s.ppu.dot = 257 then { s with ppu := s.ppu.evaluate } else s) = t at h1 ⊢
  split
  · exact h1.spriteFetch
  · exact h1

theorem State.At.endLow {s : State} {l d : Nat} (h : s.At l d) : s.endLow.At l d := by
  unfold State.endLow
  split
  · exact ⟨h.1.setPpuCongr _ rfl rfl rfl rfl rfl rfl rfl rfl, h.2⟩
  · exact h

theorem State.At.phaseDot {s : State} {l d : Nat} (h : s.At l d) : s.phaseDot.At l d := by
  unfold State.phaseDot
  split
  · exact h.hook _ (Mapper.quiet_notifyA13 _)
  split
  · exact h.hook _ (Mapper.quiet_notifyA13 _)
  · exact h

theorem State.At.vblankDot {s : State} {l d : Nat} (h : s.At l d) : s.vblankDot.At l d := by
  have key : ∀ (v h0 o n : Bool), State.At { s with
      ppu := { s.ppu with vblank := v, spr0Hit := h0, overflow := o }, nmiPending := n } l d := fun v h0 o n =>
    ⟨State.Inv.same (s := { s with ppu := { s.ppu with vblank := v, spr0Hit := h0, overflow := o } })
      ⟨rfl, rfl, rfl, rfl, rfl⟩ (h.1.setPpuCongr _ rfl rfl rfl rfl rfl rfl rfl rfl), h.2⟩
  unfold State.vblankDot
  dsimp only
  split
  · exact key _ _ _ _
  split
  · exact key _ _ _ _
  · exact h

theorem Ppu.Inv.plot {p : Ppu} (h : p.Inv) (px : Nat) (c : Rgb) (hl : p.scanline < 240) (hx : px < 256) :
    (p.plot px c).Inv :=
  ⟨⟨h.1.1, h.1.2.1, h.1.2.2.1, h.1.2.2.2.1.write _ _ (by omega), h.1.2.2.2.2⟩, h.2⟩

theorem State.At.dotActions {s : State} {l d : Nat} (h : s.At l d) : s.dotActions.At l d := by
  have h1 := h.vblankDot
  have h2 : State.At (if s.vblankDot.ppu.rendered then s.vblankDot.phaseDot.bgDot.spriteDot else s.vblankDot) l d := by
    split
    · exact h1.phaseDot.bgDot.spriteDot
    · exact h1
  unfold State.dotActions
  dsimp only
  generalize (if s.vblankDot.ppu.rendered then s.vblankDot.phaseDot.bgDot.spriteDot else s.vblankDot) = u at h2 ⊢
  have h3 := h2.endLow
  generalize u.endLow = t at h3 ⊢
  split
  · rename_i hp
    refine ⟨h3.1.setPpu _ ?_, ?_⟩
    · unfold Ppu.pixelDot
      dsimp only
      split
      · exact Ppu.Inv.plot (p := { t.ppu with spr0Hit := _ }) (h3.1.2.1.congr rfl rfl rfl rfl rfl rfl rfl rfl) _ _ hp.1 (by omega)
      · exact h3.1.2.1.plot _ _ hp.1 (by omega)
    · unfold Ppu.pixelDot
      dsimp only
      split <;> exact h3.2
  · exact h3

theorem State.At.nextDot {s : State} {l d : Nat} (h : s.At l d) : s.nextDot.Inv := by
  have hl := h.1.2.1.2.1
  have hd := h.1.2.1.2.2.1
  have hk : (s.hook Caps.scanlineHook (·.onScanline s.ppu.scanline s.ppu.rendering)).Inv :=
    h.1.hook _ (Mapper.quiet_onScanline _ _)
  have key : ∀ (t : State) (p : Ppu), t.Inv → p.ciram = t.ppu.ciram → p.palette = t.ppu.palette → p.oam = t.ppu.oam →
      p.framebuffer = t.ppu.framebuffer → p.frameOut = t.ppu.frameOut ∨ p.frameOut = t.ppu.framebuffer →
      p.secondary = t.ppu.secondary → p.scanline ≤ 261 → p.dot ≤ 340 →
      State.Inv { t with ppu := p } := fun t p ht h1 h2 h3 h4 h8 h5 h6 h7 => ht.setPpu _
    ⟨⟨h1 ▸ ht.2.1.1.1, h2 ▸ ht.2.1.1.2.1, h3 ▸ ht.2.1.1.2.2.1, h4 ▸ ht.2.1.1.2.2.2.1,
      h8.elim (fun h => h ▸ ht.2.1.1.2.2.2.2) fun h => h ▸ ht.2.1.1.2.2.2.1⟩, h6, h7, h5 ▸ ht.2.1.2.2.2⟩
  unfold State.nextDot
  dsimp only
  generalize hn : (if s.ppu.scanline = 261 ∧ s.ppu.dot = 339 ∧ s.ppu.oddFrame = true ∧ s.ppu.bgOn = true then 340
    else s.ppu.dot) = n
  have hn' : n ≤ 340 := by rw [← hn]; split <;> omega
  split
  · split
    · exact key _ _ hk rfl rfl rfl rfl (.inr rfl) rfl (Nat.zero_le _) (Nat.zero_le _)
    · exact key _ _ hk rfl rfl rfl rfl (.inl rfl) rfl (by show s.ppu.scanline + 1 ≤ 261; omega) (Nat.zero_le _)
  · exact key _ _ h.1 rfl rfl rfl rfl (.inl rfl) rfl hl (by show n + 1 ≤ 340; omega)

/-- A dot keeps the invariant. -/
theorem State.Inv.ppuTick {s : State} (h : s.Inv) : s.ppuTick.Inv :=
  State.At.nextDot (State.At.dotActions (l := s.ppu.scanline) (d := s.ppu.dot) ⟨h, rfl, rfl⟩)

end Sys2Proof.Machine
end

