-- ==== Sys2Proof/Tests/Slice0.lean ====
section
/-! SUPPORT. Tests: the well-formedness smoke, the decoding of every opcode written out from 30_encoding.md R305, single steps
taken from the vectors of 95_test_vectors.md, and for each obligation with hypotheses a witness that meets them. -/

namespace Sys2Proof.Machine.Tests

/-! ## Well-formedness: each group of mnemonics refuses a mode it has no opcode for (40_addressing.md R416) -/

theorem test_ill_formed_refused :
    [Form.mk .lda .imp, ⟨.lda, .mem (.zpy 0)⟩, ⟨.ldx, .mem (.absx 0)⟩, ⟨.ldx, .mem (.zpx 0)⟩, ⟨.ldy, .mem (.absy 0)⟩,
      ⟨.sta, .imm 0⟩, ⟨.stx, .mem (.absy 0)⟩, ⟨.sty, .mem (.absx 0)⟩, ⟨.tax, .imm 0⟩, ⟨.cpx, .mem (.zpx 0)⟩,
      ⟨.inc, .acc⟩, ⟨.bit, .imm 0⟩, ⟨.asl, .mem (.absy 0)⟩, ⟨.jmp, .mem (.absx 0)⟩, ⟨.jsr, .ind 0⟩,
      ⟨.bne, .mem (.abs 0)⟩, ⟨.anc, .mem (.zp 0)⟩, ⟨.lax, .imm 0⟩, ⟨.sax, .mem (.absy 0)⟩, ⟨.ign, .mem (.absy 0)⟩,
      ⟨.dcp, .imm 0⟩].map Form.wellFormed = List.replicate 21 false := by decide

theorem test_well_formed_accepted :
    [Form.mk .lda (.mem (.indy 0)), ⟨.ldx, .mem (.zpy 0)⟩, ⟨.stx, .mem (.zpy 0)⟩, ⟨.asl, .acc⟩, ⟨.jmp, .ind 0⟩,
      ⟨.bne, .rel 0⟩, ⟨.sax, .mem (.indx 0)⟩].map Form.wellFormed = List.replicate 7 true := by decide

/-! ## Decoding: the opcode map of 30_encoding.md R305, line by line; the operand bytes are 0x34, 0x12 -/

/-- What the sixteen opcodes of a line of the map decode to. -/
def line (high : Nat) : List (Option Instr) :=
  (List.range 16).map fun k =>
    match decode [BitVec.ofNat 8 (16 * high + k), 0x34, 0x12] with
    | .ok (i, _) => some i
    | .error _ => none

theorem test_decode_line_0 : line 0x0 = [
    some .brk, some (.oraIndx 0x34), none, some (.sloIndx 0x34), some (.ignZp04 0x34), some (.oraZp 0x34),
    some (.aslZp 0x34), some (.sloZp 0x34), some .php, some (.oraImm 0x34), some .aslAcc, some (.ancImm0B 0x34),
    some (.ignAbs 0x1234), some (.oraAbs 0x1234), some (.aslAbs 0x1234), some (.sloAbs 0x1234)] := by decide

theorem test_decode_line_1 : line 0x1 = [
    some (.bpl 0x34), some (.oraIndy 0x34), none, some (.sloIndy 0x34), some (.ignZpx14 0x34), some (.oraZpx 0x34),
    some (.aslZpx 0x34), some (.sloZpx 0x34), some .clc, some (.oraAbsy 0x1234), none, some (.sloAbsy 0x1234),
    some (.ignAbsx1C 0x1234), some (.oraAbsx 0x1234), some (.aslAbsx 0x1234), some (.sloAbsx 0x1234)] := by decide

theorem test_decode_line_2 : line 0x2 = [
    some (.jsrAbs 0x1234), some (.andIndx 0x34), none, some (.rlaIndx 0x34), some (.bitZp 0x34), some (.andZp 0x34),
    some (.rolZp 0x34), some (.rlaZp 0x34), some .plp, some (.andImm 0x34), some .rolAcc, some (.ancImm2B 0x34),
    some (.bitAbs 0x1234), some (.andAbs 0x1234), some (.rolAbs 0x1234), some (.rlaAbs 0x1234)] := by decide

theorem test_decode_line_3 : line 0x3 = [
    some (.bmi 0x34), some (.andIndy 0x34), none, some (.rlaIndy 0x34), some (.ignZpx34 0x34), some (.andZpx 0x34),
    some (.rolZpx 0x34), some (.rlaZpx 0x34), some .sec, some (.andAbsy 0x1234), none, some (.rlaAbsy 0x1234),
    some (.ignAbsx3C 0x1234), some (.andAbsx 0x1234), some (.rolAbsx 0x1234), some (.rlaAbsx 0x1234)] := by decide

theorem test_decode_line_4 : line 0x4 = [
    some .rti, some (.eorIndx 0x34), none, some (.sreIndx 0x34), some (.ignZp44 0x34), some (.eorZp 0x34),
    some (.lsrZp 0x34), some (.sreZp 0x34), some .pha, some (.eorImm 0x34), some .lsrAcc, some (.alrImm 0x34),
    some (.jmpAbs 0x1234), some (.eorAbs 0x1234), some (.lsrAbs 0x1234), some (.sreAbs 0x1234)] := by decide

theorem test_decode_line_5 : line 0x5 = [
    some (.bvc 0x34), some (.eorIndy 0x34), none, some (.sreIndy 0x34), some (.ignZpx54 0x34), some (.eorZpx 0x34),
    some (.lsrZpx 0x34), some (.sreZpx 0x34), some .cli, some (.eorAbsy 0x1234), none, some (.sreAbsy 0x1234),
    some (.ignAbsx5C 0x1234), some (.eorAbsx 0x1234), some (.lsrAbsx 0x1234), some (.sreAbsx 0x1234)] := by decide

theorem test_decode_line_6 : line 0x6 = [
    some .rts, some (.adcIndx 0x34), none, some (.rraIndx 0x34), some (.ignZp64 0x34), some (.adcZp 0x34),
    some (.rorZp 0x34), some (.rraZp 0x34), some .pla, some (.adcImm 0x34), some .rorAcc, some (.arrImm 0x34),
    some (.jmpInd 0x1234), some (.adcAbs 0x1234), some (.rorAbs 0x1234), some (.rraAbs 0x1234)] := by decide

theorem test_decode_line_7 : line 0x7 = [
    some (.bvs 0x34), some (.adcIndy 0x34), none, some (.rraIndy 0x34), some (.ignZpx74 0x34), some (.adcZpx 0x34),
    some (.rorZpx 0x34), some (.rraZpx 0x34), some .sei, some (.adcAbsy 0x1234), none, some (.rraAbsy 0x1234),
    some (.ignAbsx7C 0x1234), some (.adcAbsx 0x1234), some (.rorAbsx 0x1234), some (.rraAbsx 0x1234)] := by decide

theorem test_decode_line_8 : line 0x8 = [
    some (.skbImm80 0x34), some (.staIndx 0x34), some (.skbImm82 0x34), some (.saxIndx 0x34), some (.styZp 0x34),
    some (.staZp 0x34), some (.stxZp 0x34), some (.saxZp 0x34), some .dey, some (.skbImm89 0x34), some .txa, none,
    some (.styAbs 0x1234), some (.staAbs 0x1234), some (.stxAbs 0x1234), some (.saxAbs 0x1234)] := by decide

theorem test_decode_line_9 : line 0x9 = [
    some (.bcc 0x34), some (.staIndy 0x34), none, none, some (.styZpx 0x34), some (.staZpx 0x34), some (.stxZpy 0x34),
    some (.saxZpy 0x34), some .tya, some (.staAbsy 0x1234), some .txs, none, none, some (.staAbsx 0x1234), none, none] := by decide

theorem test_decode_line_A : line 0xA = [
    some (.ldyImm 0x34), some (.ldaIndx 0x34), some (.ldxImm 0x34), some (.laxIndx 0x34), some (.ldyZp 0x34),
    some (.ldaZp 0x34), some (.ldxZp 0x34), some (.laxZp 0x34), some .tay, some (.ldaImm 0x34), some .tax, none,
    some (.ldyAbs 0x1234), some (.ldaAbs 0x1234), some (.ldxAbs 0x1234), some (.laxAbs 0x1234)] := by decide

theorem test_decode_line_B : line 0xB = [
    some (.bcs 0x34), some (.ldaIndy 0x34), none, some (.laxIndy 0x34), some (.ldyZpx 0x34), some (.ldaZpx 0x34),
    some (.ldxZpy 0x34), some (.laxZpy 0x34), some .clv, some (.ldaAbsy 0x1234), some .tsx, none, some (.ldyAbsx 0x1234),
    some (.ldaAbsx 0x1234), some (.ldxAbsy 0x1234), some (.laxAbsy 0x1234)] := by decide

theorem test_decode_line_C : line 0xC = [
    some (.cpyImm 0x34), some (.cmpIndx 0x34), some (.skbImmC2 0x34), some (.dcpIndx 0x34), some (.cpyZp 0x34),
    some (.cmpZp 0x34), some (.decZp 0x34), some (.dcpZp 0x34), some .iny, some (.cmpImm 0x34), some .dex,
    some (.axsImm 0x34), some (.cpyAbs 0x1234), some (.cmpAbs 0x1234), some (.decAbs 0x1234), some (.dcpAbs 0x1234)] := by decide

theorem test_decode_line_D : line 0xD = [
    some (.bne 0x34), some (.cmpIndy 0x34), none, some (.dcpIndy 0x34), some (.ignZpxD4 0x34), some (.cmpZpx 0x34),
    some (.decZpx 0x34), some (.dcpZpx 0x34), some .cld, some (.cmpAbsy 0x1234), none, some (.dcpAbsy 0x1234),
    some (.ignAbsxDC 0x1234), some (.cmpAbsx 0x1234), some (.decAbsx 0x1234), some (.dcpAbsx 0x1234)] := by decide

theorem test_decode_line_E : line 0xE = [
    some (.cpxImm 0x34), some (.sbcIndx 0x34), some (.skbImmE2 0x34), some (.iscIndx 0x34), some (.cpxZp 0x34),
    some (.sbcZp 0x34), some (.incZp 0x34), some (.iscZp 0x34), some .inx, some (.sbcImm 0x34), some .nop, none,
    some (.cpxAbs 0x1234), some (.sbcAbs 0x1234), some (.incAbs 0x1234), some (.iscAbs 0x1234)] := by decide

theorem test_decode_line_F : line 0xF = [
    some (.beq 0x34), some (.sbcIndy 0x34), none, some (.iscIndy 0x34), some (.ignZpxF4 0x34), some (.sbcZpx 0x34),
    some (.incZpx 0x34), some (.iscZpx 0x34), some .sed, some (.sbcAbsy 0x1234), none, some (.iscAbsy 0x1234),
    some (.ignAbsxFC 0x1234), some (.sbcAbsx 0x1234), some (.incAbsx 0x1234), some (.iscAbsx 0x1234)] := by decide

/-- One instruction of each family, bit by bit (30_encoding.md R302, R303, R305). -/
theorem test_decode_bits :
    decode [0b10101101, 0b00110100, 0b00010010] = .ok (.ldaAbs 0x1234, []) ∧
    decode [0b11101001, 0b00000001] = .ok (.sbcImm 1, []) ∧
    decode [0b01001010] = .ok (.lsrAcc, []) ∧
    decode [0b00100000, 0b10000000, 0b00000110] = .ok (.jsrAbs 0x0680, []) ∧
    decode [0b01000000] = .ok (.rti, []) ∧
    decode [0b11011111, 0b11111111, 0b00000010] = .ok (.dcpAbsx 0x02FF, []) := ⟨rfl, rfl, rfl, rfl, rfl, rfl⟩

/-- A short list of bytes decodes to no instruction, and bytes after the instruction are left over (30_encoding.md R302). -/
theorem test_decode_ends :
    decode [] = .error .truncated ∧ decode [0xAD, 0x34] = .error .truncated ∧
    decode [0xEA, 0x01] = .ok (.nop, [0x01]) := ⟨rfl, rfl, rfl⟩

theorem test_table_word : decodeTableWord 24 0x1234AD = some (.ldaAbs 0x1234) ∧ decodeTableWord 8 0xAD = some (.ldaAbs 0) :=
  ⟨rfl, rfl⟩

/-! ## Single instructions: the vectors of 95_test_vectors.md section 2 -/

/-- The registers of the vectors' start state; PC stands after the instruction. -/
def regs (pc : Word) : Cpu := ⟨0, 0, 0, 0xFD, pc, false, false, false, false, false, false⟩

/-- The state with these registers and this RAM, the rest as at reset. -/
def on (r : Cpu) (ram : Memory) : State := { State.reset with cpu := r, ram := ram, resetRequest := false }

/-- The registers, the RAM and the cycles after one instruction. -/
def run (i : Instr) (r : Cpu) (ram : Memory) : Option (Cpu × Memory × Nat) :=
  match exec i (on r ram) with
  | .next t => some (t.cpu, t.ram, t.stepCycles)
  | _ => none

/-- V1. -/
theorem test_lda_zero : run (.ldaImm 0) (regs 0x0602) [] = some ({ regs 0x0602 with z := true }, [], 2) := by decide

/-- V3: page zero wraps. -/
theorem test_lda_zpx_wraps : run (.ldaZpx 0x10) { regs 0x0602 with x := 0xF5 } [(5, 0x99)] =
    some ({ regs 0x0602 with a := 0x99, x := 0xF5, n := true }, [(5, 0x99)], 4) := by decide

/-- V4: a RAM mirror and the page-cross cycle. -/
theorem test_lda_absx_crosses : run (.ldaAbsx 0x12F0) { regs 0x0603 with x := 0x20 } [(0x310, 0x42)] =
    some ({ regs 0x0603 with a := 0x42, x := 0x20 }, [(0x310, 0x42)], 5) := by decide

/-- V5: a store pays no page-cross cycle. -/
theorem test_sta_absx : run (.staAbsx 0x02F0) { regs 0x0603 with a := 0x11, x := 0x20 } [] =
    some ({ regs 0x0603 with a := 0x11, x := 0x20 }, [(0x310, 0x11)], 5) := by decide

/-- V6: the pointer wraps in page zero. -/
theorem test_lda_indy_pointer_wraps :
    run (.ldaIndy 0xFF) { regs 0x0602 with y := 5 } [(0, 0x02), (0x205, 0x77)] =
    some ({ regs 0x0602 with a := 0x77, y := 5 }, [(0, 0x02), (0x205, 0x77)], 5) := by decide

/-- V8. -/
theorem test_lda_indx : run (.ldaIndx 0xFE) { regs 0x0602 with x := 1 } [(0, 0x02), (0xFF, 0x34), (0x234, 0x5A)] =
    some ({ regs 0x0602 with a := 0x5A, x := 1 }, [(0, 0x02), (0xFF, 0x34), (0x234, 0x5A)], 6) := by decide

/-- V9: RAM is mirrored. -/
theorem test_sta_mirror : run (.staAbs 0x0800) { regs 0x0603 with a := 0x3C } [] =
    some ({ regs 0x0603 with a := 0x3C }, [(0, 0x3C)], 4) := by decide

/-- V10: TXS writes no flag. -/
theorem test_txs : run .txs (regs 0x0601) [] = some ({ regs 0x0601 with sp := 0 }, [], 2) := by decide

/-- V11. -/
theorem test_ldx_zpy : run (.ldxZpy 0xFF) { regs 0x0602 with y := 2 } [(1, 0x80)] =
    some ({ regs 0x0602 with x := 0x80, y := 2, n := true }, [(1, 0x80)], 4) := by decide

/-- V12. -/
theorem test_stx_zpy : run (.stxZpy 0xF8) { regs 0x0602 with x := 7, y := 0x10 } [] =
    some ({ regs 0x0602 with x := 7, y := 0x10 }, [(8, 7)], 4) := by decide

/-- V13: an indexed address wraps to page zero. -/
theorem test_lda_absx_wraps : run (.ldaAbsx 0xFFF0) { regs 0x0603 with x := 0x20 } [(0x10, 0x01)] =
    some ({ regs 0x0603 with a := 1, x := 0x20 }, [(0x10, 0x01)], 5) := by decide

/-- V14. -/
theorem test_tsx : run .tsx { regs 0x0601 with sp := 0, x := 9 } [] =
    some ({ regs 0x0601 with sp := 0, z := true }, [], 2) := by decide

/-- V15. -/
theorem test_txa : run .txa { regs 0x0601 with x := 0x80 } [] =
    some ({ regs 0x0601 with x := 0x80, a := 0x80, n := true }, [], 2) := by decide

/-- V20: signed overflow. -/
theorem test_adc_overflow : run (.adcImm 0x01) { regs 0x0602 with a := 0x7F } [] =
    some ({ regs 0x0602 with a := 0x80, n := true, v := true }, [], 2) := by decide

/-- V24: binary although D = 1. -/
theorem test_adc_ignores_decimal : run (.adcImm 0x01) { regs 0x0602 with a := 9, d := true } [] =
    some ({ regs 0x0602 with a := 0x0A, d := true }, [], 2) := by decide

/-- V25: a borrow clears C. -/
theorem test_sbc_borrow : run (.sbcImm 0x01) { regs 0x0602 with c := true } [] =
    some ({ regs 0x0602 with a := 0xFF, n := true }, [], 2) := by decide

/-- V26. -/
theorem test_sbc_overflow : run (.sbcImm 0x01) { regs 0x0602 with a := 0x80, c := true } [] =
    some ({ regs 0x0602 with a := 0x7F, v := true, c := true }, [], 2) := by decide

/-- V29. -/
theorem test_cmp_less : run (.cmpImm 0x20) { regs 0x0602 with a := 0x10 } [] =
    some ({ regs 0x0602 with a := 0x10, n := true }, [], 2) := by decide

/-- V31. -/
theorem test_cpx_equal : run (.cpxImm 0) (regs 0x0602) [] = some ({ regs 0x0602 with c := true, z := true }, [], 2) := by
  decide

/-- V32. -/
theorem test_cpy_greater : run (.cpyImm 0) { regs 0x0602 with y := 0xFF } [] =
    some ({ regs 0x0602 with y := 0xFF, c := true, n := true }, [], 2) := by decide

/-- V33. -/
theorem test_inc_wraps : run (.incZp 0x10) (regs 0x0602) [(0x10, 0xFF)] =
    some ({ regs 0x0602 with z := true }, [], 5) := by decide

/-- V34. -/
theorem test_dec_wraps : run (.decAbs 0x0200) (regs 0x0603) [] =
    some ({ regs 0x0603 with n := true }, [(0x200, 0xFF)], 6) := by decide

/-- V35. -/
theorem test_inx_wraps : run .inx { regs 0x0601 with x := 0xFF } [] = some ({ regs 0x0601 with z := true }, [], 2) := by
  decide

/-- V36. -/
theorem test_dey_wraps : run .dey (regs 0x0601) [] = some ({ regs 0x0601 with y := 0xFF, n := true }, [], 2) := by decide

/-- V37: a read-modify-write pays no page-cross cycle. -/
theorem test_inc_absx : run (.incAbsx 0x02F0) { regs 0x0603 with x := 0x20 } [(0x310, 1)] =
    some ({ regs 0x0603 with x := 0x20 }, [(0x310, 2)], 7) := by decide

/-- V40. -/
theorem test_and_zero : run (.andImm 0) { regs 0x0602 with a := 0xFF } [] = some ({ regs 0x0602 with z := true }, [], 2) := by
  decide

/-- V41. -/
theorem test_eor_self : run (.eorImm 0xAA) { regs 0x0602 with a := 0xAA } [] =
    some ({ regs 0x0602 with z := true }, [], 2) := by decide

/-- V42. -/
theorem test_ora_zero : run (.oraZp 0x10) (regs 0x0602) [] = some ({ regs 0x0602 with z := true }, [], 3) := by decide

/-- V43, V44. -/
theorem test_bit :
    run (.bitZp 0x10) { regs 0x0602 with a := 0x40 } [(0x10, 0x3F)] =
      some ({ regs 0x0602 with a := 0x40, z := true }, [(0x10, 0x3F)], 3) ∧
    run (.bitAbs 0x0200) { regs 0x0603 with a := 0xFF } [(0x200, 0xC0)] =
      some ({ regs 0x0603 with a := 0xFF, n := true, v := true }, [(0x200, 0xC0)], 4) := by decide

/-- V45. -/
theorem test_asl : run (.aslZp 0x10) (regs 0x0602) [(0x10, 0x80)] =
    some ({ regs 0x0602 with c := true, z := true }, [], 5) := by decide

/-- V46. -/
theorem test_lsr : run .lsrAcc { regs 0x0601 with a := 1 } [] =
    some ({ regs 0x0601 with c := true, z := true }, [], 2) := by decide

/-- V47. -/
theorem test_ror : run .rorAcc { regs 0x0601 with a := 1, c := true } [] =
    some ({ regs 0x0601 with a := 0x80, c := true, n := true }, [], 2) := by decide

/-- V48. -/
theorem test_rol_zpx : run (.rolZpx 0xFF) { regs 0x0602 with x := 0x11, c := true } [(0x10, 0x7F)] =
    some ({ regs 0x0602 with x := 0x11, n := true }, [(0x10, 0xFF)], 6) := by decide

/-- V60: the high byte of the pointer comes from the same page. -/
theorem test_jmp_indirect_wraps : run (.jmpInd 0x02FF) (regs 0x0603) [(0x200, 3), (0x300, 4)] =
    some (regs 0x0300, [(0x200, 3), (0x300, 4)], 5) := by decide

/-- V62: the return address is that of the last byte of JSR. -/
theorem test_jsr : run (.jsrAbs 0x0680) (regs 0x0701) [] =
    some ({ regs 0x0680 with sp := 0xFB }, [(0x1FD, 7)], 6) := by decide

/-- V63: SP wraps within the stack page. -/
theorem test_rts_wraps : run .rts { regs 0x0601 with sp := 0xFE } [(0x100, 7), (0x1FF, 2)] =
    some ({ regs 0x0703 with sp := 0 }, [(0x100, 7), (0x1FF, 2)], 6) := by decide

/-- V64, V65. -/
theorem test_bne :
    run (.bne 0x10) { regs 0x0602 with z := true } [] = some ({ regs 0x0602 with z := true }, [], 2) ∧
    run (.bne 0x80) (regs 0x0602) [] = some (regs 0x0582, [], 4) := by decide

/-- V66. -/
theorem test_bcs : run (.bcs 0x7F) { regs 0x06F2 with c := true } [] = some ({ regs 0x0771 with c := true }, [], 4) := by
  decide

/-- V67. -/
theorem test_bpl : run (.bpl 0xFE) (regs 0x0602) [] = some (regs 0x0600, [], 3) := by decide

/-- V68: PC wraps. -/
theorem test_beq_wraps : run (.beq 2) { regs 0xFFFE with z := true } [] = some ({ regs 0x0000 with z := true }, [], 4) := by
  decide

/-- V70: bits 5 and 4 of the pushed byte are set. -/
theorem test_php : run .php (regs 0x0601) [] = some ({ regs 0x0601 with sp := 0xFC }, [(0x1FD, 0x30)], 3) := by decide

/-- V72: bits 5 and 4 of the pulled byte are ignored. -/
theorem test_plp : run .plp { regs 0x0601 with sp := 0xFC, i := true } [(0x1FD, 0x30)] =
    some (regs 0x0601, [(0x1FD, 0x30)], 4) := by decide

/-- V73. -/
theorem test_pla_wraps : run .pla { regs 0x0601 with sp := 0xFF } [(0x100, 0x80)] =
    some ({ regs 0x0601 with sp := 0, a := 0x80, n := true }, [(0x100, 0x80)], 4) := by decide

/-- V74. -/
theorem test_pha_wraps : run .pha { regs 0x0601 with sp := 0, a := 0x5A } [] =
    some ({ regs 0x0601 with sp := 0xFF, a := 0x5A }, [(0x100, 0x5A)], 3) := by decide

/-- V75. -/
theorem test_rti : run .rti { regs 0x0601 with sp := 0xFA } [(0x1FB, 0xC3), (0x1FC, 0x34), (0x1FD, 0x12)] =
    some ({ regs 0x1234 with n := true, v := true, z := true, c := true },
      [(0x1FB, 0xC3), (0x1FC, 0x34), (0x1FD, 0x12)], 6) := by decide

/-- V79. -/
theorem test_nop : run .nop (regs 0x0601) [] = some (regs 0x0601, [], 2) := by decide

/-- V90. -/
theorem test_lax_indy : run (.laxIndy 0x10) { regs 0x0602 with y := 0x10 } [(0x10, 0xF8), (0x11, 0x02)] =
    some ({ regs 0x0602 with y := 0x10, z := true }, [(0x10, 0xF8), (0x11, 0x02)], 6) := by decide

/-- V91. -/
theorem test_sax_zpy : run (.saxZpy 0xFF) { regs 0x0602 with a := 0xF0, x := 0x3C, y := 2 } [] =
    some ({ regs 0x0602 with a := 0xF0, x := 0x3C, y := 2 }, [(1, 0x30)], 4) := by decide

/-- V92. -/
theorem test_dcp_absx : run (.dcpAbsx 0x02FF) { regs 0x0603 with a := 0x10, x := 1 } [(0x300, 0x11)] =
    some ({ regs 0x0603 with a := 0x10, x := 1, z := true, c := true }, [(0x300, 0x10)], 7) := by decide

/-- V93. -/
theorem test_isc : run (.iscZp 0x10) { regs 0x0602 with c := true } [] =
    some ({ regs 0x0602 with a := 0xFF, n := true }, [(0x10, 1)], 5) := by decide

/-- V94. -/
theorem test_slo : run (.sloZp 0x10) { regs 0x0602 with a := 1 } [(0x10, 0x40)] =
    some ({ regs 0x0602 with a := 0x81, n := true }, [(0x10, 0x80)], 5) := by decide

/-- V95. -/
theorem test_sre : run (.sreZp 0x10) { regs 0x0602 with a := 0xFF } [(0x10, 1)] =
    some ({ regs 0x0602 with a := 0xFF, c := true, n := true }, [], 5) := by decide

/-- V96. -/
theorem test_rla : run (.rlaZp 0x10) { regs 0x0602 with a := 0x0F, c := true } [(0x10, 0x80)] =
    some ({ regs 0x0602 with a := 1, c := true }, [(0x10, 1)], 5) := by decide

/-- V97: the carry the rotate leaves enters the add. -/
theorem test_rra : run (.rraZp 0x10) { regs 0x0602 with a := 0x7F, c := true } [(0x10, 2)] =
    some ({ regs 0x0602 with a := 0, c := true, z := true }, [(0x10, 0x81)], 5) := by decide

/-- V98. -/
theorem test_anc : run (.ancImm0B 0x7F) { regs 0x0602 with a := 0xFF } [] = some ({ regs 0x0602 with a := 0x7F }, [], 2) := by
  decide

/-- V99. -/
theorem test_alr : run (.alrImm 1) { regs 0x0602 with a := 1 } [] =
    some ({ regs 0x0602 with c := true, z := true }, [], 2) := by decide

/-- V190. -/
theorem test_arr : run (.arrImm 0xFF) { regs 0x0602 with a := 0xFF, c := true } [] =
    some ({ regs 0x0602 with a := 0xFF, c := true, n := true }, [], 2) := by decide

/-- V191. -/
theorem test_axs : run (.axsImm 1) { regs 0x0602 with x := 0xFF } [] =
    some ({ regs 0x0602 with x := 0xFF, n := true }, [], 2) := by decide

/-- V192. -/
theorem test_ign : run (.ignAbsx1C 0x02F0) { regs 0x0603 with x := 0x20 } [] =
    some ({ regs 0x0603 with x := 0x20 }, [], 5) := by decide

/-- V193. -/
theorem test_skb : run (.skbImm89 0) (regs 0x0602) [] = some (regs 0x0602, [], 2) := by decide

/-- V194: the read that IGN discards has its side effects. -/
theorem test_ign_reads :
    (match exec (.ignAbs 0x2002) { on (regs 0x0603) [] with ppu := { State.reset.ppu with vblank := true, w := true } } with
      | .next t => some (t.ppu.vblank, t.ppu.w)
      | _ => none) = some (false, false) := by decide

/-! ## The gate and the crash -/

/-- A block with a cartridge that holds `code` at 0x8000, PC there, no event pending. -/
def demo (code : List Byte) : State :=
  { State.reset with cpu := regs 0x8000, cart := some (Cart.ofCode code), resetRequest := false }

/-- V80 and V76, the pushed bytes: B is 0 for an interrupt and 1 for BRK. -/
theorem test_pushes :
    (State.doIrq { demo [] with cpu := regs 0x8123 }).ram = [(0x1FB, 0x20), (0x1FC, 0x23), (0x1FD, 0x81)] ∧
    (match exec .brk { demo [] with cpu := { regs 0xC101 with i := true } } with
      | .next t => some (t.ram, t.cpu.sp, t.cpu.i, t.stepCycles)
      | _ => none) = some ([(0x1FB, 0x34), (0x1FC, 0x02), (0x1FD, 0xC1)], 0xFA, true, 7) := by decide

/-- V86: RESET changes I and PC only. -/
theorem test_reset :
    (State.gate { demo [0xEA] with
      cpu := { regs 0x1111 with a := 1, x := 2, y := 3, sp := 0x10, c := true, d := true }, resetRequest := true }).cpu =
    { regs 0x8000 with a := 1, x := 2, y := 3, sp := 0x10, c := true, d := true, i := true } := by decide

/-- V82: NMI before IRQ. -/
theorem test_nmi_first :
    let s := State.gate { demo [] with
      nmiPending := true, apu := { Apu.powerOn with frame := ⟨false, false, true, 0⟩ } }
    s.nmiPending = false ∧ s.cpu.i = true ∧ s.irqLine = true ∧ s.stepCycles = 7 := by decide

/-- V88, V89: a crash keeps PC, and no cycle passes. -/
theorem test_crash :
    (match step (demo [0xEB]) with
      | .next t => some (t.cpu, t.crashed, t.cpuCycles, t.ppu.dot)
      | _ => none) = some (regs 0x8000, some 0x8000, 0, 0) := by decide

/-! ## Devices -/

/-- V100 to V106. -/
theorem test_scroll_writes :
    ((on (regs 0) []).busWrite 0x2000 0x03 false).ppu.t = 0x0C00 ∧
    (let s := (on (regs 0) []).busWrite 0x2005 0x7D false
     s.ppu.t = 0x000F ∧ s.ppu.x = 5 ∧ s.ppu.w = true ∧ (s.busWrite 0x2005 0x5E false).ppu.t = 0x616F) ∧
    (let s := (on (regs 0) []).busWrite 0x2006 0x21 false
     s.ppu.t = 0x2100 ∧ s.ppu.v = 0 ∧ (s.busWrite 0x3FFE 0x08 false).ppu.v = 0x2108) ∧
    (((on (regs 0) []).busWrite 0x2006 0xFF false).busWrite 0x2006 0xFF false).ppu.v = 0x3FFF := by decide

/-- V107, V111, V112: the palette mirror and the nametable mirroring. -/
theorem test_ppu_bus :
    ((demo []).ppuBusWrite 0x3F10 0x2C).ppu.palette = [(0, 0x2C)] ∧
    ((demo []).ppuBusWrite 0x2405 0x99).ppu.ciram = [(5, 0x99)] ∧
    (State.ppuBusWrite { demo [] with cart := some { Cart.ofCode [] with mirrorHint := .vertical } } 0x2C05 0x99).ppu.ciram =
      [(0x405, 0x99)] := by decide

/-- V113: OAMDATA writes advance `oamaddr`. -/
theorem test_oamdata :
    (((((on (regs 0) []).busWrite 0x2003 0xFE false).busWrite 0x2004 0x11 false).busWrite 0x2004 0x22 false).busWrite
      0x2004 0x33 false).ppu.oam = [(0, 0x33), (0xFE, 0x11), (0xFF, 0x22)] := by decide

/-- V115, for one byte: the copy wraps within OAM. -/
theorem test_oam_dma_byte :
    (State.oamCopyByte { on (regs 0) [(0x2F0, 0x77)] with ppu := { State.reset.ppu with oamAddr := 0x10 } } 2 0xF0).ppu.oam =
      [(0, 0x77)] := by decide

/-- V118, V119, V119b, V119c. -/
theorem test_scroll_steps :
    incCoarseX 0x001F = 0x0400 ∧ incY 0x73A0 = 0x0800 ∧ incY 0x73E0 = 0 ∧ incY 0x1000 = 0x2000 := by decide

/-- The example of 95_test_vectors.md S14: 8×16 sprite addresses. -/
theorem test_sprite_address :
    (let p := fun (tile attr : Byte) (row : Nat) => Ppu.spriteAddress { State.reset.ppu with
      ctrl := 0x20, scanline := row, secondary := [⟨0, 0, tile, attr, 0⟩] } 0
     p 0x85 0 10 = 0x1852 ∧ p 0x85 0x80 10 = 0x1845 ∧ p 0x84 0 3 = 0x0843) := by decide

/-- R951 with R12: a row below 0 of a stale list is the unsigned byte mod 256, so 8×16 fetches the lower half, row 254 & 7. -/
theorem test_stale_row :
    Ppu.spriteAddress { State.reset.ppu with ctrl := 0x20, scanline := 3, secondary := [⟨0, 5, 0x84, 0, 0⟩] } 0 = 0x0856 := by
  decide

/-- R951 and D64: on the pre-render scanline a slot is empty whatever the list holds: tile 0xFF, row 0, no valid unit. -/
theorem test_prerender_slot :
    (let p := fun ctrl : Byte => { State.reset.ppu with
      ctrl := ctrl, scanline := 261, secondary := [⟨0, 250, 0x85, 0x80, 0⟩], units := .replicate 8 ⟨0, 0, 0, 0, true⟩ }
     (p 0x08).spriteAddress 0 = 0x1FF0 ∧ (p 0x20).spriteAddress 0 = 0x1FE0 ∧
       ((p 0).loadUnit 0 1 2).units.toList.map SpriteUnit.valid = [false, true, true, true, true, true, true, true]) := by
  decide

/-- R951: `lo` is gone after the dot of the high-plane fetch, rendered or not; a fetch that finds none draws a free value. -/
theorem test_sprite_low :
    (let at_ := fun dot : Nat => { State.reset with ppu := { State.reset.ppu with dot := dot, sprLoLatch := some 7 } }
     (at_ 262).spriteLow.1 = 7 ∧ (at_ 262).dotActions.ppu.sprLoLatch = some 7 ∧
       (at_ 263).dotActions.ppu.sprLoLatch = none) ∧
    State.reset.spriteLow.1 = Config.spriteLow 0 ∧ State.reset.spriteLow.2.draws = 1 := ⟨by decide, rfl, rfl⟩

/-- R251: the frame handed over is the framebuffer at the last dot of scanline 261; a pixel of the next frame does not reach it. -/
theorem test_frame_handed :
    (let s := { State.reset with ppu := { State.reset.ppu with scanline := 261, dot := 340, framebuffer := [(0, 5)] } }
     let t := s.nextDot
     t.ppu.frameComplete = true ∧ State.takeFrame { t with ppu := t.ppu.plot 0 7 } =
       ([(0, 5)], { t with ppu := { t.ppu with framebuffer := [(0, 7)], frameComplete := false } })) := by decide

/-- V130, V131, V132: the length load. -/
theorem test_length_load :
    ((Apu.powerOn.writeEnables 1).writeChannel 3 0x08).p1.length = 254 ∧
    ((Apu.powerOn.writeEnables 1).writeChannel 3 0xF8).p1.length = 30 ∧
    (Apu.powerOn.writeChannel 3 0x08).p1.length = 0 := by decide

/-- V138, V139, V140: the DMC reader's start, address wrap and IRQ. -/
theorem test_dmc_reader :
    (let d := (((Apu.powerOn.writeChannel 0x12 0x40).writeChannel 0x13 0x02).writeEnables 0x10).dmc
     d.curAddr = 0xD000 ∧ d.remaining = 33) ∧
    (let d := Dmc.accept { Apu.powerOn.dmc with curAddr := 0xFFFF, remaining := 2 } 0
     d.curAddr = 0x8000 ∧ d.remaining = 1) ∧
    (Dmc.accept { Apu.powerOn.dmc with irqEn := true, remaining := 1 } 0).irq = true := by decide

/-- V142 to V145: the sweep target and its mute. -/
theorem test_sweep :
    Pulse.sweepTarget { Pulse.powerOn with period := 0x100, swShift := 1, swNeg := true } false = 0x7F ∧
    Pulse.sweepTarget { Pulse.powerOn with period := 0x100, swShift := 1, swNeg := true } true = 0x80 ∧
    Pulse.sweepMute { Pulse.powerOn with period := 0x600, swShift := 1 } false = true ∧
    Pulse.sweepMute { Pulse.powerOn with period := 0x007, swShift := 0 } false = true := by decide

/-- V146, V147. -/
theorem test_lfsr : lfsrClock 1 false = 0x4000 ∧ lfsrClock 0x41 true = 0x20 ∧ lfsrClock 0x41 false = 0x4020 := by decide

/-- V148: two quarter clocks. -/
theorem test_envelope :
    let e := Envelope.clock ⟨true, 0, 0⟩ 0 false
    e = ⟨false, 0, 15⟩ ∧ (e.clock 0 false).decay = 14 ∧ (Envelope.clock ⟨false, 0, 0⟩ 0 false).decay = 0 ∧
      (Envelope.clock ⟨false, 0, 0⟩ 0 true).decay = 15 := by decide

/-- V149, the bits the port shifts out. -/
theorem test_controller :
    let p : Pad := (Pad.mk 0x09 0 5).latch
    let after := fun n => Nat.repeat (fun q : Pad => (q.shift false).2) n p
    (List.range 8).map (fun n => ((after n).shift false).1) = [true, false, false, true, false, false, false, false] := by
  decide

/-- V151: 16 KiB of PRG-ROM is mirrored. -/
theorem test_nrom_mirror :
    let c : Cart := { Cart.ofCode [0x55] with prgSize := 16384 }
    (c.cpuRead 0x8000).1 = .all 0x55 ∧ (c.cpuRead 0xC000).1 = .all 0x55 := by decide

/-- V152, V153. -/
theorem test_mmc1_serial :
    (Mmc1.mk 5 3 0 0 0 0).write 0x8000 0x80 false = ⟨0, 0, 0x0C, 0, 0, 0⟩ ∧
    (((((Mmc1.powerOn.write 0xE000 1 false).write 0xE000 0 false).write 0xE000 1 false).write 0xE000 0 false).write
      0xE000 0 false) = { Mmc1.powerOn with prg := 5 } := by decide

/-- V156, V157: the scanline counter. -/
theorem test_mmc3_counter :
    let r := ((Mmc3.powerOn.write 0xC000 2).write 0xC001 0).write 0xE001 0
    let a := r.clockCounter
    let b := a.clockCounter.clockCounter
    a.irqCounter = 2 ∧ a.irqPending = false ∧ b.irqCounter = 0 ∧ b.irqPending = true ∧ b.clockCounter.irqCounter = 2 ∧
      Mmc3.clockCounter { Mmc3.powerOn with irqEnabled := true } = { Mmc3.powerOn with irqEnabled := true } := by decide

/-- V159: the PRG banks of a 128 KiB MMC3 cartridge. -/
theorem test_mmc3_banks :
    let r : Mmc3 := { Mmc3.powerOn with r := #v[0, 0, 0, 0, 0, 0, 3, 5] }
    let c : Cart := { Cart.ofCode [] with prgSize := 131072, mapper := .mmc3 r }
    let bank := fun (q : Mmc3) (o : Nat) => q.romIndex c o / 8192
    [0, 0x2000, 0x4000, 0x6000].map (bank r) = [3, 5, 14, 15] ∧
      [0, 0x4000].map (bank { r with bankSelect := 0x40 }) = [14, 3] := by decide

/-- V160, V161: MMC5's PRG-RAM protection and multiplier. -/
theorem test_mmc5 :
    let c : Cart := { Cart.ofCode [] with mapper := .mmc5 .powerOn }
    let open_ := (c.cpuWrite 0x5102 2 false).cpuWrite 0x5103 1 false
    (open_.cpuWrite 0x6000 9 false).prgRam = [(0, 9)] ∧
      ((open_.cpuWrite 0x5103 0 false).cpuWrite 0x6000 9 false).prgRam = [] ∧
      (let m := (c.cpuWrite 0x5205 0x12 false).cpuWrite 0x5206 0x34 false
       (m.cpuRead 0x5205).1 = .all 0xA8 ∧ (m.cpuRead 0x5206).1 = .all 0x03) := by decide

/-- R1176, R1180, D63: a fetch uses the phase's set or the extended bank, a PPUDATA access `last_set`. Sets A and B hold 1 and 2
in the registers of slot 0; ExRAM's bank is 3. -/
theorem test_mmc5_chr :
    let r : Mmc5 := { Mmc5.powerOn with chrMode := 3, chrA := .replicate 8 1, chrB := .replicate 4 2, extByte := 3 }
    let c : Cart := { Cart.ofCode [] with chrSize := 65536, mapper := .mmc5 r }
    let at_ := fun (q : Mmc5) (use : PatternUse) => q.chrIndex c use 5
    [.fetch true, .fetch false, .data].map (at_ r) = [2053, 1029, 1029] ∧
    [.fetch true, .fetch false, .data].map (at_ { r with phase := .spr, lastSet := .b }) = [1029, 2053, 2053] ∧
    [.fetch true, .fetch false, .data].map (at_ { r with exramMode := 1 }) = [12293, 12293, 1029] := by decide

/-- V162, V163, and a bad magic number. -/
theorem test_image_errors :
    (let kind := fun b : List Byte => match Cart.parse .default b with
      | .ok _ => none
      | .error e => some e
     kind [0x4E, 0x45, 0x53, 0x1A, 0, 0, 0, 0, 0, 0, 0, 0, 0, 0, 0, 0] = some (.invalidRom .headerContradictsSize) ∧
     kind [0x4E, 0x45, 0x53, 0x1A, 1, 0, 0, 0, 0, 0, 0, 0, 0, 0, 0, 0] = some (.invalidRom .truncated) ∧
     kind [0x4E, 0x45, 0x53, 0x1B, 1, 0, 0, 0, 0, 0, 0, 0, 0, 0, 0, 0] = some (.invalidRom .invalidMagic)) ∧
    mapperNumber [0, 0, 0, 0, 1, 1, 0x20, 0x10, 0, 0, 0, 0, 1, 0, 0, 0] = 2 ∧
    mapperNumber [0, 0, 0, 0, 1, 1, 0x20, 0x40, 0, 0, 0, 0, 0, 0, 0, 0] = 66 ∧ Mapper.powerOn 6 = none := by decide

set_option maxRecDepth 20000 in
/-- The placed instruction is the first to run: LDA #0x80 after RESET's seven cycles. -/
theorem test_fetch_word :
    (match step (State.reset.withFetchWord 16 0x80A9) with
      | .next t => some (t.cpu, t.cpuCycles)
      | _ => none) = some ({ State.reset.cpu with pc := 0x8002, a := 0x80, n := true, i := true }, 9) := by decide

/-! ## Witnesses: for each obligation with hypotheses, a state and operands that meet them, one per clause -/

theorem witness_decodedBytesAreTheEncoding : decode [0xA9, 0x01, 0x02] = .ok (.ldaImm 1, [0x02]) := rfl

theorem witness_illegalOpcodesCrash :
    let s := demo [0xEB]
    s.cart.isSome = true ∧ s.frozen = false ∧ s.halted = false ∧ (s.openGate.busRead s.openGate.cpu.pc).1 = 0xEB := by decide

theorem witness_stepRunsDecodedInstruction :
    let s := demo [0x9D, 0xF0, 0x02]
    let i : Instr := .staAbsx 0x02F0
    let f := s.openGate.readBytes s.openGate.cpu.pc i.length
    (s.cart.isSome = true ∧ s.frozen = false ∧ s.halted = false ∧ i.wellFormed = true) ∧ decode f.1 = .ok (i, []) ∧
      ∃ t, exec i (f.2.setPc (s.openGate.cpu.pc + BitVec.ofNat 16 i.length)) = .next t := ⟨by decide, rfl, _, rfl⟩

theorem witness_addressingModes :
    (0x02FE : Word).extractLsb' 0 8 ≠ 0xFF ∧ (Instr.ldxZpy 0).operand.mode = .zpy ∧ (Instr.jmpInd 0).operand.mode = .ind := by
  decide

/-- One value for each of the four functions, a shifted-out bit each time. -/
theorem witness_shiftFunctions :
    ((Cpu.shiftL = Cpu.shiftL ∧ 254 = 2 * (0xFF : Byte).toNat % 256) ∧ true = (0xFF : Byte).getLsbD 7) ∧
    ((Cpu.shiftR = Cpu.shiftR ∧ 0 = (0x01 : Byte).toNat / 2) ∧ true = (0x01 : Byte).getLsbD 0) ∧
    ((Cpu.rotL = Cpu.rotL ∧ 1 = 2 * (0x80 : Byte).toNat % 256 + (if true then 1 else 0)) ∧ true = (0x80 : Byte).getLsbD 7) ∧
    ((Cpu.rotR = Cpu.rotR ∧ 128 = (0x01 : Byte).toNat / 2 + (if true then 128 else 0)) ∧ true = (0x01 : Byte).getLsbD 0) :=
  ⟨⟨⟨rfl, rfl⟩, rfl⟩, ⟨⟨rfl, rfl⟩, rfl⟩, ⟨⟨rfl, rfl⟩, rfl⟩, ⟨⟨rfl, rfl⟩, rfl⟩⟩

theorem witness_loadResults :
    [Instr.ldaIndy 0xFF, .ldxZpy 0xFF, .ldyAbsx 0xFFFF, .laxIndx 0].map Instr.mnemonic = [.lda, .ldx, .ldy, .lax] := by decide

theorem witness_storeResults :
    [Instr.staAbsx 0xFFFF, .stxZpy 0xFF, .styZp 0, .saxIndx 0xFF].map Instr.mnemonic = [.sta, .stx, .sty, .sax] := by decide

theorem witness_addSubtractResults : [Instr.adcImm 0xFF, .sbcIndy 0].map Instr.mnemonic = [.adc, .sbc] := by decide

theorem witness_compareResults :
    [Instr.cmpImm 0xFF, .cpxZp 0, .cpyAbs 0xFFFF].map Instr.mnemonic = [.cmp, .cpx, .cpy] := by decide

theorem witness_logicResults :
    [Instr.andImm 0xFF, .oraIndx 0, .eorAbsy 0xFFFF, .bitZp 0].map Instr.mnemonic = [.and, .ora, .eor, .bit] := by decide

/-- Also the operands of `ModifyFrame`. -/
theorem witness_modifyResults :
    [Instr.incZp 0, .decZp 0, .aslZp 0, .lsrZp 0, .rolZp 0, .rorZp 0, .dcpZp 0, .iscZp 0, .rlaZp 0, .rraZp 0, .sloZp 0,
      .sreZp 0].map (fun i => (i.mnemonic, i.operand)) =
    [Mnemonic.inc, .dec, .asl, .lsr, .rol, .ror, .dcp, .isc, .rla, .rra, .slo, .sre].map (·, .mem (.zp 0)) := by decide

theorem witness_flagResults : (Instr.skbImm80 0xFF).mnemonic = .skb ∧ (Instr.skbImmE2 0).mnemonic = .skb := by decide

theorem witness_ignResults : (Instr.ignZpxF4 0xFF).mnemonic = .ign ∧ (Instr.ignAbs 0x2002).mnemonic = .ign := by decide

theorem witness_unofficialModifyResults :
    [Instr.dcpAbsx 0xFFFF, .iscIndy 0xFF, .rlaIndx 0, .rraZp 0, .sloAbsy 0, .sreZpx 0].map Instr.mnemonic =
      [.dcp, .isc, .rla, .rra, .slo, .sre] := by decide

/-- Without a cartridge, with one, and with one and crashed. -/
theorem witness_nothingStops :
    State.reset.cart = none ∧ (demo []).cart.isSome = true ∧
    (let s := { demo [] with crashed := some 0x8000 }
     s.cart.isSome = true ∧ s.crashed.isSome = true ∧ s.resetRequest = false) := by decide

/-- An instruction that writes no register and no flag, and one that writes both. -/
theorem witness_registerWriters : (∃ t, exec .nop (demo []) = .next t) ∧ ∃ t, exec (.ldaImm 0) (demo []) = .next t :=
  ⟨⟨_, rfl⟩, _, rfl⟩

theorem witness_flagWriters : (∃ t, exec .nop (demo []) = .next t) ∧ ∃ t, exec .rti (demo []) = .next t :=
  ⟨⟨_, rfl⟩, _, rfl⟩

theorem witness_noStoreFrame :
    (∃ t, exec (.ldaAbs 0x2002) (demo []) = .next t) ∧ (Instr.ldaAbs 0x2002).mnemonic = .lda ∧
    (∃ t, exec .rolAcc (demo []) = .next t) ∧ Instr.rolAcc.operand = .acc := ⟨⟨_, rfl⟩, rfl, ⟨_, rfl⟩, rfl⟩

/-- A store into RAM, and one to 0x4014, where the halt changes. -/
theorem witness_storeFrame :
    (∃ t, exec (.staAbs 0x1FFF) (demo []) = .next t) ∧ (∃ t, exec (.staAbs 0x4014) (demo []) = .next t) ∧
    (Instr.staAbs 0x4014).mnemonic ∈ [Mnemonic.sta, .stx, .sty, .sax] ∧
    (Instr.staAbs 0x4014).operand = .mem (.abs 0x4014) := ⟨⟨_, rfl⟩, ⟨_, rfl⟩, by decide, rfl⟩

theorem witness_modifyFrame :
    (∃ t, exec (.incAbs 0x1FFF) (demo []) = .next t) ∧ (∃ t, exec (.incAbs 0x4014) (demo []) = .next t) ∧
    (Instr.incAbs 0x4014).mnemonic ∈ [Mnemonic.inc, .dec, .asl, .lsr, .rol, .ror, .dcp, .isc, .rla, .rra, .slo, .sre] ∧
    (Instr.incAbs 0x4014).operand = .mem (.abs 0x4014) := ⟨⟨_, rfl⟩, ⟨_, rfl⟩, by decide, rfl⟩

theorem witness_pushFrame :
    (∃ t, exec .pha (demo []) = .next t) ∧ (∃ t, exec .php (demo []) = .next t) ∧
    (∃ t, exec (.jsrAbs 0xFFFF) (demo []) = .next t) ∧ ∃ t, exec .brk (demo []) = .next t :=
  ⟨⟨_, rfl⟩, ⟨_, rfl⟩, ⟨_, rfl⟩, _, rfl⟩

/-- A mnemonic of each list; the two bounds are reached: NOP in two cycles, ISC indy in eight. -/
theorem witness_cycleBound :
    [Instr.ldaIndy 0, .staIndy 0, .iscIndy 0, .nop, .bne 0, .pha, .pla, .jmpInd 0, .jsrAbs 0, .rts, .brk].map
      (fun i => (i.mnemonic, i.operand.mode, i.baseCycles)) =
      [(.lda, .indy, 5), (.sta, .indy, 6), (.isc, .indy, 8), (.nop, .imp, 2), (.bne, .rel, 2), (.pha, .imp, 3),
        (.pla, .imp, 4), (.jmp, .ind, 5), (.jsr, .abs, 6), (.rts, .imp, 6), (.brk, .imp, 7)] ∧
    (match exec .nop (on (regs 0) []) with | .next t => t.stepCycles | _ => 0) = 2 ∧
    (match exec (.iscIndy 0) (on (regs 0) []) with | .next t => t.stepCycles | _ => 0) = 8 := by decide

/-- Also the three lines of R1123: MMC3's, MMC5's, and a mapper without one. -/
theorem witness_gatePriority :
    State.reset.resetRequest = true ∧
    (let s := { demo [] with nmiPending := true }
     s.resetRequest = false ∧ s.nmiPending = true) ∧
    (let s := { demo [] with apu := { Apu.powerOn with frame := ⟨false, false, true, 0⟩ } }
     s.resetRequest = false ∧ s.nmiPending = false ∧ s.irqLine = true ∧ s.cpu.i = false) ∧
    ((demo []).resetRequest = false ∧ (demo []).nmiPending = false ∧ (demo []).irqLine = false) ∧
    (let line := fun m : Mapper => ({ demo [] with cart := some { Cart.ofCode [] with mapper := m } } : State).irqLine
     [.mmc3 { Mmc3.powerOn with irqPending := true }, .mmc5 { Mmc5.powerOn with irqPending := true },
       .mmc5 { Mmc5.powerOn with irqPending := true, irqEnable := true }, .nrom].map line = [true, false, true, false]) := by
  decide

/-- SP wraps during the entry. -/
theorem witness_returnUndoesEntry :
    let s := { demo [] with cpu := { regs 0x8123 with sp := 0x01 } }
    let u := s.enter 0xFFFA 0x8123 false
    s.ram.wf = true ∧ u.ram = (s.enter 0xFFFA 0x8123 false).ram ∧ u.cpu.sp = 0xFE := ⟨rfl, rfl, by decide⟩

theorem witness_frozenStep :
    let s := { demo [] with crashed := some 0x8000 }
    s.cart.isSome = true ∧ s.crashed.isSome = true ∧ s.resetRequest = false := by decide

theorem witness_haltStep :
    let s := { demo [] with halt := 1 }
    s.cart.isSome = true ∧ s.crashed = none ∧ s.resetRequest = false ∧ 0 < s.halt := by decide

/-- The first and the last page of RAM and its mirrors. -/
theorem witness_oamDma :
    (demo []).ppu.oam.wf = true ∧ (0x00 : Byte).toNat < 0x20 ∧ (0x1F : Byte).toNat < 0x20 := by decide

theorem demo_inv : (demo [0xEA]).Inv := by
  refine ⟨⟨rfl, rfl⟩, ⟨⟨⟨rfl, rfl⟩, ⟨rfl, rfl⟩, ⟨rfl, rfl⟩, ⟨rfl, rfl⟩, ⟨rfl, rfl⟩⟩, by decide, by decide, by decide, ?_⟩,
    ⟨by decide, by decide, by decide, by decide⟩, ?_⟩
  · intro e h; cases h
  · intro c h
    injection h with h
    subst h
    exact ⟨⟨by decide, rfl, rfl⟩, ⟨by decide, rfl, rfl⟩, ⟨rfl, rfl⟩, ⟨rfl, rfl⟩, trivial⟩

theorem demo_steps : ∃ t, step (demo [0xEA]) = .next t := ⟨_, rfl⟩

theorem witness_stepKeepsInv : (demo [0xEA]).Inv ∧ ∃ t, step (demo [0xEA]) = .next t := ⟨demo_inv, demo_steps⟩

/-- The header of an image of one PRG bank and no CHR-ROM. -/
def header : List Byte := [0x4E, 0x45, 0x53, 0x1A, 1, 0, 0, 0, 0, 0, 0, 0, 0, 0, 0, 0]

theorem image_parses (init : CartInit) (body : List Byte) (h : body.length = 16384) :
    ∃ c, Cart.parse init (header ++ body) = .ok c := by
  have hl : (header ++ body).length = 16400 := by rw [List.length_append, h]; rfl
  have m : mapperNumber (header ++ body) = 0 := by simp [mapperNumber, header]
  unfold Cart.parse
  rw [if_neg (by rw [hl]; exact fun k => k.elim (by decide) fun k => k rfl)]
  dsimp only
  have b4 : (header ++ body).getD 4 0 = 1 := rfl
  have b5 : (header ++ body).getD 5 0 = 0 := rfl
  have b6 : (header ++ body).getD 6 0 = 0 := rfl
  rw [b4, b5, b6, hl, m, if_neg (by decide), if_neg (by decide)]
  exact ⟨_, rfl⟩

theorem witness_loadedHasInv :
    (PowerOn.default.ram.Within 2048 ∧ PowerOn.default.ciram.Within 2048 ∧ PowerOn.default.palette.Within 32 ∧
      PowerOn.default.oam.Within 256) ∧
    (∀ c, Cart.parse .default (header ++ List.replicate 16384 0xEA) = .ok c → CartInit.default.prgRam.Within c.mapper.prgRamSize) ∧
    CartInit.default.chrRam.Within 8192 ∧ CartInit.default.vram.Within 2048 ∧
    ∃ s, State.loadImage .default .default .default (header ++ List.replicate 16384 0xEA) = .ok s := by
  obtain ⟨c, h⟩ := image_parses .default (List.replicate 16384 0xEA) List.length_replicate
  refine ⟨⟨⟨rfl, rfl⟩, ⟨rfl, rfl⟩, ⟨rfl, rfl⟩, ⟨rfl, rfl⟩⟩, fun _ _ => ⟨rfl, rfl⟩, ⟨rfl, rfl⟩, ⟨rfl, rfl⟩, ?_⟩
  exact ⟨_, by unfold State.loadImage; rw [h]⟩

theorem witness_loadedMapperValues :
    ∃ s, State.loadImage .default .default .default (header ++ List.replicate 16384 0xEA) = .ok s :=
  witness_loadedHasInv.2.2.2.2

/-- With CHR-ROM too. -/
theorem witness_romIsConstant :
    (∃ t c, step (demo [0xEA]) = .next t ∧ (demo [0xEA]).cart = some c) ∧
    (let s := { demo [0xEA] with cart := some { Cart.ofCode [0xEA] with chrIsRam := false } }
     ∃ t c, step s = .next t ∧ s.cart = some c ∧ c.chrIsRam = false) := ⟨⟨_, _, rfl, rfl⟩, _, _, rfl, rfl, rfl⟩

/-- The ends of the window, equal and different indexes. -/
theorem witness_ramMirrored :
    (demo []).ram.wf = true ∧ (0x1FFF : Word).toNat < 0x2000 ∧ (0x07FF : Word).toNat % 0x800 = (0x1FFF : Word).toNat % 0x800 ∧
      (0x0000 : Word).toNat % 0x800 ≠ (0x1FFF : Word).toNat % 0x800 := by decide

theorem witness_stackAndStatus :
    (on { regs 0 with sp := 0x00 } []).cpu.sp = 0x00 ∧ (on { regs 0 with sp := 0xFF } []).cpu.sp = 0xFF := by decide

/-- Every register number, at both ends of the window, and both sides of 0x3F00 for PPUDATA. -/
theorem witness_ppuRegisters :
    ((List.range 8).map fun k => (BitVec.ofNat 16 (0x2000 + k)).toNat % 8) = List.range 8 ∧
    ((List.range 8).map fun k => (BitVec.ofNat 16 (0x3FF8 + k)).toNat % 8) = List.range 8 ∧
    (0x3FFF : Word).toNat < 0x4000 ∧ 0x2000 ≤ (0x2000 : Word).toNat ∧
    (((0x3EFF : BitVec 15).setWidth 16 &&& 0x3FFF) : Word).toNat < 0x3F00 ∧
    0x3F00 ≤ (((0x7F00 : BitVec 15).setWidth 16 &&& 0x3FFF) : Word).toNat := by decide

/-- The block of `demo` at a scanline and a dot. -/
def dotAt (scanline dot : Nat) (mask : Byte) (odd : Bool) : State :=
  { demo [] with ppu := { State.reset.ppu with scanline := scanline, dot := dot, mask := mask, oddFrame := odd } }

theorem witness_vBlankDot :
    ((dotAt 241 1 0 false).ppu.scanline = 241 ∧ (dotAt 241 1 0 false).ppu.dot = 1) ∧
    ((dotAt 261 1 8 false).ppu.scanline = 261 ∧ (dotAt 261 1 8 false).ppu.dot = 1) ∧
    ¬(((dotAt 241 2 0 false).ppu.scanline = 241 ∨ (dotAt 241 2 0 false).ppu.scanline = 261) ∧
      (dotAt 241 2 0 false).ppu.dot = 1) := by decide

/-- The last dots of a scanline and of the frame, with and without the skip. -/
theorem witness_positionAdvances :
    let at_ := fun (q : State) => (q.ppu.scanline ≤ 261 ∧ q.ppu.dot ≤ 340)
    let ends := fun (q : State) => (q.ppu.dot = 340 ∨
      (q.ppu.scanline = 261 ∧ q.ppu.dot = 339 ∧ q.ppu.oddFrame = true ∧ q.ppu.mask.getLsbD 3 = true))
    (at_ (dotAt 0 339 0 false) ∧ ¬ends (dotAt 0 339 0 false)) ∧ (at_ (dotAt 0 340 0 false) ∧ ends (dotAt 0 340 0 false)) ∧
    (at_ (dotAt 261 340 8 true) ∧ ends (dotAt 261 340 8 true)) ∧ (at_ (dotAt 261 339 8 true) ∧ ends (dotAt 261 339 8 true)) ∧
    ¬ends (dotAt 261 339 8 false) ∧ ¬ends (dotAt 261 339 0 true) := by decide

/-- The ends of the palette window; 0x3F10 is 0x3F00, 0x3FFF is not. -/
theorem witness_paletteMirrored :
    let fold := fun n : Nat => if n % 32 ∈ [0x10, 0x14, 0x18, 0x1C] then n % 32 - 0x10 else n % 32
    (demo []).ppu.palette.wf = true ∧ 0x3F00 ≤ (0x3F00 : Word).toNat ∧ (0x3FFF : Word).toNat < 0x4000 ∧
      fold 0x3F10 = fold 0x3F00 ∧ fold 0x3FFF ≠ fold 0x3F00 := by decide

/-- A count clear of every clock, in both modes, and a quarter clock that is no half clock. -/
theorem witness_frameSequencer :
    7456 ∉ [7457, 14913, 22371, 29829] ∧ 37282 ∉ [7457, 14913, 22371, 37281] ∧ 7457 ∉ [14913, 29829] ∧
      22371 ∉ [14913, 37281] ∧ 22371 ∈ [7457, 22371] ∧ 29829 ∈ [14913, 29829] ∧ 37281 ∈ [14913, 37281] := by decide

theorem witness_controllerReads :
    (0x01 : Byte).getLsbD 0 = true ∧ (0xFE : Byte).getLsbD 0 = false ∧ 7 < 8 ∧ ¬8 < 8 ∧
      ((0x4017 : Word) = 0x4016 ∨ (0x4017 : Word) = 0x4017) := by decide

/-- The reset bit; five writes; the four registers at the ends of their ranges. -/
theorem witness_mmc1Serial :
    (0x80 : Byte).getLsbD 7 = true ∧ Mmc1.powerOn.sr = 0 ∧ Mmc1.powerOn.srN = 0 ∧
    (∀ d ∈ [(0x7F : Byte), 0x00, 0x01, 0x7E, 0x7F], d.getLsbD 7 = false) ∧
    [(0x8000 : Word), 0x9FFF, 0xA000, 0xBFFF, 0xC000, 0xDFFF, 0xE000, 0xFFFF].map (fun a => a.toNat / 8192 % 4) =
      [0, 0, 1, 1, 2, 2, 3, 3] := by decide

/-- With power-on's registers: $5113 and $5116 map RAM, $5117 the last bank of the 32 KiB ROM. -/
theorem witness_mapperRules :
    (∀ c, (demo []).cart = some c → Caps.scanlineIrq c.mapper.caps = false) ∧
    ({ Mmc3.powerOn with a12Low := 7 }.a12Low < 8 ∧ 8 ≤ { Mmc3.powerOn with a12Low := 8 }.a12Low) ∧
    (let r : Mmc5 := { Mmc5.powerOn with protect1 := 2, protect2 := 1 }
     let c : Cart := { Cart.ofCode [] with mapper := .mmc5 r }
     ({ demo [] with cart := some c } : State).cart = some c ∧
       c.mapper = .mmc5 r ∧ c.prgTarget 0x7FFF = .ram 0x1FFF ∧ c.prgTarget 0xDFFF = .ram 0x1FFF ∧
       c.prgTarget 0xE000 = .rom 0x6000 ∧ 0x6000 ≤ (0x6000 : Word).toNat ∧ r.protect1 = 2 ∧ r.protect2 = 1 ∧
       ¬(Mmc5.powerOn.protect1 = 2 ∧ Mmc5.powerOn.protect2 = 1)) := by
  refine ⟨?_, by decide, by decide⟩
  intro c h
  injection h with h
  subst h
  rfl

end Sys2Proof.Machine.Tests
end

section
/-! PROOFS. The state of the CPU (10_state.md): what each shape of instruction sets of the registers, the registers and flags
each instruction can write (R101–R104, R109, R115), the frame of the pushes (R104–R107), and the stack and status byte
(R105, R106, R112–R114). -/

namespace Sys2Proof

/-! ## What the opcode table gives a mnemonic: its operands, and the bytes it pushes -/

/-- An instruction's operand is in one of its mnemonic's modes (40_addressing.md R416). -/
theorem Instr.mode_mem_modes (i : Instr) : i.operand.mode ∈ i.mnemonic.modes :=
  List.contains_iff_mem.mp i.form_statement.1

variable {o : Operand} {ms : List Mode}

/-- In modes that are memory modes only, an operand is a memory operand. -/
theorem Operand.eq_mem (ho : o.mode ∈ ms) (h : ∀ q ∈ ms, q ∉ [Mode.imp, .acc, .imm, .ind, .rel]) : ∃ m, o = .mem m := by
  cases o with
  | mem m => exact ⟨m, rfl⟩
  | _ => exact absurd (by simp [Operand.mode]) (h _ ho)

/-- The modes of the shifts leave the accumulator and the memory operands. -/
theorem Operand.eq_acc_or_mem (ho : o.mode ∈ ms) (h : ∀ q ∈ ms, q ∉ [Mode.imp, .imm, .ind, .rel]) :
    o = .acc ∨ ∃ m, o = .mem m := by
  cases o with
  | acc => exact .inl rfl
  | mem m => exact .inr ⟨m, rfl⟩
  | _ => exact absurd (by simp [Operand.mode]) (h _ ho)

/-- A mnemonic whose one mode is absolute has an absolute operand. -/
theorem Operand.eq_abs (ho : o.mode ∈ [Mode.abs]) : ∃ w, o = .mem (.abs w) := by
  obtain ⟨m, rfl⟩ := Operand.eq_mem ho (by decide)
  cases m with
  | abs w => exact ⟨w, rfl⟩
  | _ => exact absurd ho (by simp [Operand.mode])

/-- How many bytes PHA, PHP, JSR and BRK push (10_state.md R105; 44_control_transfer.md R602; 60_exceptions.md R825). -/
def Mnemonic.pushCount : Mnemonic → Nat
  | .jsr => 2
  | .brk => 3
  | _ => 1

end Sys2Proof

namespace Sys2Proof.Machine

/-! ## What an instruction sets of the CPU registers -/

/-- The registers `r'` that a shape can leave, from the registers `r`. -/
def Shape.Sets (r r' : Cpu) : Shape → Prop
  | .read f _ => ∃ v, r' = f r v
  | .store _ _ => r' = r
  | .modify f g _ => ∃ v, r' = g (f r v).2 (f r v).1
  | .implied f => r' = f r
  | .branch _ _ | .jump _ | .jumpIndirect _ => ∃ pc, r' = { r with pc := pc }
  | .call _ | .ret => ∃ sp pc, r' = { r with sp := sp, pc := pc }
  | .push _ => ∃ sp, r' = { r with sp := sp }
  | .pullA => ∃ v sp, r' = Cpu.setNZ { r with a := v, sp := sp } v
  | .pullStatus => ∃ p sp, r' = { r.loadStatus p with sp := sp }
  | .brk => ∃ sp pc, r' = { r with sp := sp, pc := pc, i := true }
  | .rti => ∃ p sp pc, r' = { r.loadStatus p with sp := sp, pc := pc }

theorem State.branchOp_sets (s : State) (cond : Cpu → Bool) (b1 : Byte) (n : Nat) :
    ∃ pc, (s.branchOp cond b1 n).cpu = { s.cpu with pc := pc } := by
  unfold State.branchOp
  split
  · exact ⟨_, rfl⟩
  · exact ⟨s.cpu.pc, rfl⟩

/-- Running a shape leaves registers that the shape sets. -/
theorem Shape.run_sets (x : Shape) (n : Nat) (s : State) : x.Sets s.cpu (x.run n s).cpu := by
  cases x with
  | read f o => exact ⟨(s.load o).val, by rw [Shape.run, State.readOp_eq]⟩
  | store f m => simp [Shape.Sets, Shape.run, State.storeOp_eq]
  | modify f g m => exact ⟨_, by rw [Shape.run, State.modifyOp_eq]⟩
  | implied f => rfl
  | branch cond b1 => exact s.branchOp_sets cond b1 n
  | jump w => exact ⟨w, rfl⟩
  | jumpIndirect w =>
    exact ⟨(s.read16Bug w).1, congrArg (fun r : Cpu => { r with pc := (s.read16Bug w).1 }) (s.readPair_keeps w _).cpu⟩
  | call w => exact ⟨_, _, by simp only [Shape.run, State.callSub, State.pushWord, State.push_eq]; rfl⟩
  | ret => exact ⟨_, _, by simp only [Shape.run, State.returnSub, State.pullWord, State.pull_eq]; rfl⟩
  | push f => exact ⟨_, by rw [Shape.run, State.push_eq]; rfl⟩
  | pullA => exact ⟨_, _, by simp only [Shape.run, State.pullA, State.pull_eq]; rfl⟩
  | pullStatus => exact ⟨_, _, by simp only [Shape.run, State.pullStatus, State.pull_eq]; rfl⟩
  | brk => exact ⟨_, _, by rw [Shape.run, State.enter_eq]; rfl⟩
  | rti => exact ⟨_, _, _, by rw [Shape.run, State.leave_eq]; rfl⟩

/-! ## What the shapes that depend on the operand set -/

theorem Shape.sets_storeTo {f : Cpu → Byte} {o : Operand} {r r' : Cpu} (h : (Shape.storeTo f o).Sets r r') : r' = r := by
  cases o <;> exact h

theorem Shape.sets_branchTo {cond : Cpu → Bool} {o : Operand} {r r' : Cpu} (h : (Shape.branchTo cond o).Sets r r') :
    ∃ pc, r' = { r with pc := pc } := by
  cases o with
  | rel b1 => exact h
  | _ => exact ⟨r.pc, h⟩

theorem Shape.sets_jumpTo {o : Operand} {r r' : Cpu} (h : (Shape.jumpTo o).Sets r r') :
    ∃ pc, r' = { r with pc := pc } := by
  unfold Shape.jumpTo at h
  split at h
  · exact h
  · exact h
  · exact ⟨r.pc, h⟩

theorem Shape.sets_callTo {o : Operand} {r r' : Cpu} (h : (Shape.callTo o).Sets r r') :
    ∃ sp pc, r' = { r with sp := sp, pc := pc } := by
  unfold Shape.callTo at h
  split at h
  · exact h
  · exact ⟨r.sp, r.pc, h⟩

/-! ## Which instructions write which register and flag -/

/-- The registers and flags of the CPU. -/
inductive CpuField where
  | a | x | y | sp | pc | c | z | i | d | v | n

/-- The mnemonics that write a register or flag, whatever their operand (10_state.md R101–R104, R109, R115). -/
def CpuField.writers : CpuField → List Mnemonic
  | .a => [.lda, .pla, .txa, .tya, .adc, .sbc, .and, .ora, .eor, .lax, .alr, .anc, .arr, .slo, .rla, .sre, .rra, .isc]
  | .x => [.ldx, .tax, .tsx, .inx, .dex, .lax, .axs]
  | .y => [.ldy, .tay, .iny, .dey]
  | .sp => [.txs, .pha, .php, .pla, .plp, .jsr, .rts, .rti, .brk]
  | .pc => [.jmp, .jsr, .rts, .rti, .brk, .bcc, .bcs, .beq, .bmi, .bne, .bpl, .bvc, .bvs]
  | .c => [.adc, .sbc, .cmp, .cpx, .cpy, .asl, .lsr, .rol, .ror, .clc, .sec, .plp, .rti, .alr, .anc, .arr, .axs, .dcp,
    .isc, .rla, .rra, .slo, .sre]
  | .z | .n => [.lda, .ldx, .ldy, .tax, .tay, .tsx, .txa, .tya, .pla, .adc, .sbc, .and, .ora, .eor, .cmp, .cpx, .cpy, .bit,
    .inc, .dec, .inx, .iny, .dex, .dey, .asl, .lsr, .rol, .ror, .plp, .rti, .alr, .anc, .arr, .axs, .lax, .dcp, .isc, .rla,
    .rra, .slo, .sre]
  | .v => [.adc, .sbc, .bit, .clv, .plp, .rti, .arr, .isc, .rra]
  | .i => [.cli, .sei, .plp, .rti, .brk]
  | .d => [.cld, .sed, .plp, .rti]

/-- Whether a mnemonic with an operand can write a register or flag: the shifts write A in the accumulator form. -/
def CpuField.writtenBy (m : Mnemonic) (o : Operand) : CpuField → Bool
  | .a => decide (m ∈ CpuField.a.writers ∨ m ∈ [.asl, .lsr, .rol, .ror] ∧ o = .acc)
  | q => decide (m ∈ q.writers)

/-- The registers `r` with the registers and flags that `w` names taken from `r'`. -/
def Cpu.take (r r' : Cpu) (w : CpuField → Bool) : Cpu where
  a := bif w .a then r'.a else r.a
  x := bif w .x then r'.x else r.x
  y := bif w .y then r'.y else r.y
  sp := bif w .sp then r'.sp else r.sp
  pc := bif w .pc then r'.pc else r.pc
  c := bif w .c then r'.c else r.c
  z := bif w .z then r'.z else r.z
  i := bif w .i then r'.i else r.i
  d := bif w .d then r'.d else r.d
  v := bif w .v then r'.v else r.v
  n := bif w .n then r'.n else r.n

/-- The shape of a mnemonic sets no register or flag but those the mnemonic writes. -/
theorem shapeOf_sets (m : Mnemonic) (o : Operand) (ho : o.mode ∈ m.modes) (r r' : Cpu)
    (h : (shapeOf o m).Sets r r') : r' = r.take r' (CpuField.writtenBy m o) := by
  cases m
  case lda | ldx | ldy | adc | sbc | cmp | cpx | cpy | and | ora | eor | bit | alr | anc | arr | axs | lax | ign =>
    obtain ⟨v, rfl⟩ := h; rfl
  case sta | stx | sty | sax =>
    obtain rfl := Shape.sets_storeTo h; rfl
  case tax | tay | tsx | txa | txs | tya | inx | iny | dex | dey | clc | cld | cli | clv | sec | sed | sei | nop | skb =>
    obtain rfl := h; rfl
  case inc | dec | dcp | isc | rla | rra | slo | sre =>
    obtain ⟨m, rfl⟩ : ∃ m, o = .mem m := Operand.eq_mem ho (by decide)
    obtain ⟨v, rfl⟩ := h; rfl
  case asl | lsr | rol | ror =>
    obtain rfl | ⟨m, rfl⟩ := Operand.eq_acc_or_mem ho (by decide)
    · obtain rfl := h; rfl
    · obtain ⟨v, rfl⟩ := h; rfl
  case bcc | bcs | beq | bmi | bne | bpl | bvc | bvs =>
    obtain ⟨pc, rfl⟩ := Shape.sets_branchTo h; rfl
  case jmp => obtain ⟨pc, rfl⟩ := Shape.sets_jumpTo h; rfl
  case jsr => obtain ⟨sp, pc, rfl⟩ := Shape.sets_callTo h; rfl
  case rts | brk | plp | pla => obtain ⟨_, _, rfl⟩ := h; rfl
  case pha | php => obtain ⟨sp, rfl⟩ := h; rfl
  case rti => obtain ⟨p, sp, pc, rfl⟩ := h; rfl

/-- An instruction changes no register or flag but those it writes. -/
theorem exec_writes (i : Instr) (s t : State) (h : exec i s = .next t) :
    t.cpu = s.cpu.take t.cpu (CpuField.writtenBy i.mnemonic i.operand) := by
  rw [exec_eq] at h
  injection h with h
  exact shapeOf_sets _ _ i.mode_mem_modes _ _ (h ▸ Shape.run_sets _ _ s)

/-- What a field of `Cpu.take` says of it: the field is as before, or one of those taken. -/
theorem eq_or_of_eq_cond {α : Type} {p : Prop} [Decidable p] {x y : α} (h : x = bif decide p then x else y) :
    x = y ∨ p := by
  by_cases hp : p
  · exact .inr hp
  · exact .inl (by simpa [hp] using h)

/-- Settles O27: the instruction's registers are those of before with the written ones replaced (`exec_writes`), read off
register by register. -/
theorem registerWriters : Obligations.RegisterWriters := by
  unfold Obligations.RegisterWriters
  intro i s t h
  have hw := exec_writes i s t h
  exact ⟨(eq_or_of_eq_cond (congrArg Cpu.a hw)).imp_right (.imp_right And.symm), eq_or_of_eq_cond (congrArg Cpu.x hw),
    eq_or_of_eq_cond (congrArg Cpu.y hw), eq_or_of_eq_cond (congrArg Cpu.sp hw), eq_or_of_eq_cond (congrArg Cpu.pc hw)⟩

/-- Settles O28: `exec_writes`, read off flag by flag. -/
theorem flagWriters : Obligations.FlagWriters := by
  unfold Obligations.FlagWriters
  intro i s t h
  have hw := exec_writes i s t h
  exact ⟨eq_or_of_eq_cond (congrArg Cpu.c hw), eq_or_of_eq_cond (congrArg Cpu.z hw), eq_or_of_eq_cond (congrArg Cpu.n hw),
    eq_or_of_eq_cond (congrArg Cpu.v hw), eq_or_of_eq_cond (congrArg Cpu.i hw), eq_or_of_eq_cond (congrArg Cpu.d hw)⟩

/-! ## The frame of the pushes -/

/-- What `n` pushes, with reads and changes of PC and I among them, leave of `s` in `t`: every location but the stack bytes
pushed, the registers but SP, PC and I, and the CPU events. -/
structure State.Pushed (n : Nat) (s t : State) : Prop where
  byteAt : ∀ l, (∀ k, k < n → l ≠ .ram (0x100 + (s.cpu.sp - BitVec.ofNat 8 k).toNat)) → t.byteAt l = s.byteAt l
  cpu : t.cpu = { s.cpu with sp := s.cpu.sp - BitVec.ofNat 8 n, pc := t.cpu.pc, i := t.cpu.i }
  halt : t.halt = s.halt
  nmiPending : t.nmiPending = s.nmiPending
  resetRequest : t.resetRequest = s.resetRequest
  crashed : t.crashed = s.crashed
  cpuCycles : t.cpuCycles = s.cpuCycles

/-- A push changes no byte but the one SP points at. -/
theorem State.push_byteAt (s : State) (v : Byte) (l : Location) (h : l ≠ .ram (0x100 + s.cpu.sp.toNat)) :
    (s.push v).byteAt l = s.byteAt l := by
  rw [State.push_eq, ramIndex_stackAddress]
  cases l with
  | ram k => exact Store.read_write_ne _ _ _ _ fun hk => h (hk ▸ rfl)
  | _ => rfl

namespace State.Pushed

variable {n : Nat} {s t u : State}

theorem refl (s : State) : Pushed 0 s s where
  byteAt _ _ := rfl
  cpu := by simp
  halt := rfl
  nmiPending := rfl
  resetRequest := rfl
  crashed := rfl
  cpuCycles := rfl

theorem sp (h : Pushed n s t) : t.cpu.sp = s.cpu.sp - BitVec.ofNat 8 n := congrArg Cpu.sp h.cpu

theorem push (h : Pushed n s t) (v : Byte) : Pushed (n + 1) s (t.push v) where
  byteAt l hl := by
    rw [t.push_byteAt v l (h.sp ▸ hl n n.lt_succ_self)]
    exact h.byteAt l fun k hk => hl k (Nat.lt_succ_of_lt hk)
  cpu := by
    have hsp : s.cpu.sp - BitVec.ofNat 8 (n + 1) = s.cpu.sp - BitVec.ofNat 8 n - 1 := by
      rw [BitVec.ofNat_add, ← BitVec.sub_sub]; rfl
    rw [State.push_eq, hsp, ← h.sp]
    exact congrArg (fun r : Cpu => { r with sp := t.cpu.sp - 1 }) h.cpu
  halt := by rw [State.push_eq, ← h.halt]
  nmiPending := by rw [State.push_eq, ← h.nmiPending]
  resetRequest := by rw [State.push_eq, ← h.resetRequest]
  crashed := by rw [State.push_eq, ← h.crashed]
  cpuCycles := by rw [State.push_eq, ← h.cpuCycles]

theorem pushWord (h : Pushed n s t) (r : Word) : Pushed (n + 2) s (t.pushWord r) := (h.push _).push _

theorem read (h : Pushed n s t) (k : t.ReadKeeps u) : Pushed n s u where
  byteAt l hl := (k.byteAt l).trans (h.byteAt l hl)
  cpu := k.cpu ▸ h.cpu
  halt := k.halt.trans h.halt
  nmiPending := k.nmiPending.trans h.nmiPending
  resetRequest := k.resetRequest.trans h.resetRequest
  crashed := k.crashed.trans h.crashed
  cpuCycles := k.cpuCycles.trans h.cpuCycles

/-- A change of PC and I is inside the frame. -/
theorem setPcI (h : Pushed n s t) (pc : Word) (i : Bool) : Pushed n s (t.setCpu { t.cpu with pc := pc, i := i }) where
  byteAt l hl := (State.byteAt_congr rfl rfl rfl rfl rfl l).trans (h.byteAt l hl)
  cpu := by rw [State.setCpu_cpu, h.cpu]
  halt := h.halt
  nmiPending := h.nmiPending
  resetRequest := h.resetRequest
  crashed := h.crashed
  cpuCycles := h.cpuCycles

theorem setPc (h : Pushed n s t) (pc : Word) : Pushed n s (t.setPc pc) := h.setPcI pc t.cpu.i

theorem addCycles (h : Pushed n s t) (c : Nat) : Pushed n s (t.addCycles c) where
  byteAt l hl := (State.byteAt_congr rfl rfl rfl rfl rfl l).trans (h.byteAt l hl)
  cpu := h.cpu
  halt := h.halt
  nmiPending := h.nmiPending
  resetRequest := h.resetRequest
  crashed := h.crashed
  cpuCycles := h.cpuCycles

/-- An interrupt entry pushes three bytes. -/
theorem enter (h : Pushed n s t) (vector ret : Word) (b : Bool) : Pushed (n + 3) s (t.enter vector ret b) :=
  ((((h.pushWord ret).push _).setPcI _ true).read (State.readPair_keeps _ vector (vector + 1))).setPc _

end State.Pushed

/-- PHA, PHP, JSR and BRK push their bytes and change no more than PC and I. -/
theorem exec_pushed (i : Instr) (s t : State) (hi : i.mnemonic ∈ [.pha, .php, .jsr, .brk]) (h : exec i s = .next t) :
    s.Pushed i.mnemonic.pushCount t := by
  rw [exec_eq] at h
  injection h with h
  subst h
  have ho := i.mode_mem_modes
  generalize i.mnemonic = m at hi ho ⊢
  simp only [List.mem_cons, List.not_mem_nil, or_false] at hi
  obtain rfl | rfl | rfl | rfl := hi
  · exact ((State.Pushed.refl s).push _).addCycles _
  · exact ((State.Pushed.refl s).push _).addCycles _
  · obtain ⟨w, hw⟩ := Operand.eq_abs ho
    rw [hw]
    exact (((State.Pushed.refl s).pushWord _).setPc w).addCycles _
  · exact ((State.Pushed.refl s).enter _ _ _).addCycles _

/-- Settles O32: each of the four is a chain of pushes, reads and changes of PC and I (`exec_pushed`). -/
theorem pushFrame : Obligations.PushFrame := by
  unfold Obligations.PushFrame
  intro i s t hi h
  have p := exec_pushed i s t hi h
  refine ⟨p.byteAt, p.sp, ?_⟩
  rw [p.cpu]
  exact ⟨rfl, rfl, rfl, rfl, rfl, rfl, rfl, rfl, p.halt, p.nmiPending, p.resetRequest, p.crashed, p.cpuCycles⟩

/-! ## The stack and the status byte -/

/-- A push in terms of the bus (10_state.md R105). -/
theorem State.push_bus (s : State) (v : Byte) :
    s.push v = { s.busWrite (stackAddress s.cpu.sp) v false with cpu := { s.cpu with sp := s.cpu.sp - 1 } } := by
  simp only [State.push, State.setCpu, State.busWrite_cpu]

/-- The status image as a number (10_state.md R112). -/
theorem Cpu.status_toNat (r : Cpu) : r.status.toNat =
    128 * r.n.toNat + 64 * r.v.toNat + 32 + 8 * r.d.toNat + 4 * r.i.toNat + 2 * r.z.toNat + r.c.toNat := by
  unfold Cpu.status
  generalize r.n = n, r.v = v, r.d = d, r.i = i, r.z = z, r.c = c
  revert n v d i z c
  decide

/-- A pushed status byte holds each flag in its bit (10_state.md R112, R113), so loading it gives the flags back. -/
theorem Cpu.loadStatus_pushedStatus (q r : Cpu) (b : Bool) : q.loadStatus (r.pushedStatus b) =
    { q with c := r.c, z := r.z, i := r.i, d := r.d, v := r.v, n := r.n } := by
  unfold Cpu.loadStatus Cpu.pushedStatus Cpu.status
  generalize r.n = n, r.v = v, r.d = d, r.i = i, r.z = z, r.c = c
  congr 1 <;> revert n v d i z c b <;> decide

/-- Loading a status byte ignores bits 4 and 5 (10_state.md R114). -/
theorem Cpu.loadStatus_xor (q : Cpu) (p : Byte) : q.loadStatus (p ^^^ 0x30) = q.loadStatus p := by
  simp [Cpu.loadStatus]

/-- Settles O46: the bus forms of push and pull, and the status byte over all its flags. -/
theorem stackAndStatus : Obligations.StackAndStatus := by
  unfold Obligations.StackAndStatus
  refine ⟨fun s v => ⟨s.push_bus v, rfl, fun h => ?_, fun h => ?_⟩,
    fun r q b => ⟨r.status_toNat, ?_, q.loadStatus_pushedStatus r b, fun p => ⟨rfl, (q.loadStatus_xor p).symm⟩⟩⟩
  · rw [State.push_eq, h]; rfl
  · rw [State.pull_eq, h]; rfl
  · cases b <;> rfl

end Sys2Proof.Machine
end

section
/-! PROOFS. The memories (20_memory.md): the invariant of every step, what no step changes of the cartridge (R246), the frames
of the instructions that store nothing, store or modify (R213, R216), and the mirrors of RAM and palette (R203, R233). -/

namespace Sys2Proof.Machine

/-! ## The invariant of every step -/

/-- Settles O41: bus accesses, APU cycles and dots keep the invariant, so by the induction over a step every step does. -/
theorem stepKeepsInv : Obligations.StepKeepsInv := by
  unfold Obligations.StepKeepsInv
  exact State.Inv.busClosed.step (fun _ hs => hs.apuCycle) (fun _ hs => hs.ppuTick)

/-! ## What no step changes of the cartridge -/

/-- Which mapper it is and what it declares: a mapper without its registers. -/
def Mapper.kind (m : Mapper) : Nat × Caps := (m.number, m.caps)

/-- The part of a cartridge that nothing writes: PRG-ROM, CHR if it is ROM (none if it is RAM), the configuration and the kind
of mapper (63_mappers.md R1100, R1104). -/
structure Rom where
  prg : Memory
  prgSize : Nat
  chr : Option Memory
  chrSize : Nat
  chrIsRam : Bool
  mirrorHint : MirrorHint
  mapper : Nat × Caps

/-- The part of a cartridge that nothing writes. -/
def Cart.rom (c : Cart) : Rom where
  prg := c.prg
  prgSize := c.prgSize
  chr := if c.chrIsRam then none else some c.chr
  chrSize := c.chrSize
  chrIsRam := c.chrIsRam
  mirrorHint := c.mirrorHint
  mapper := c.mapper.kind

/-- The part of the loaded cartridge that nothing writes. -/
def State.rom (s : State) : Option Rom := s.cart.map Cart.rom

/-! ### The mapper's operations -/

theorem Mapper.kind_addressUpdate (m : Mapper) (a : Word) : (m.addressUpdate a).kind = m.kind := by cases m <;> rfl

theorem Mapper.kind_notifyA12 (m : Mapper) (b : Bool) : (m.notifyA12 b).kind = m.kind := by cases m <;> rfl

theorem Mapper.kind_notifyA13 (m : Mapper) (b : Bool) : (m.notifyA13 b).kind = m.kind := by cases m <;> rfl

theorem Mapper.kind_latchAccess (m : Mapper) (a : Word) : (m.latchAccess a).kind = m.kind := by cases m <;> rfl

theorem Mapper.kind_onScanline (m : Mapper) (n : Nat) (b : Bool) : (m.onScanline n b).kind = m.kind := by cases m <;> rfl

theorem Mapper.kind_write (m : Mapper) (a : Word) (d : Byte) (k : Bool) : (m.write a d k).kind = m.kind := by
  cases m <;> rfl

/-! ### The cartridge's operations -/

theorem Cart.rom_setMapper (c : Cart) {m : Mapper} (h : m.kind = c.mapper.kind) : { c with mapper := m }.rom = c.rom := by
  simp only [Cart.rom, h]

theorem Cart.rom_readNametable (c : Cart) (ciram : Memory) (n : Word) : (c.readNametable ciram n).2.rom = c.rom := by
  unfold Cart.readNametable
  split
  · rename_i r hm
    exact c.rom_setMapper (by rw [hm]; rfl)
  · rfl

theorem Cart.rom_writeNametable (c : Cart) (ciram : Memory) (n : Word) (v : Byte) :
    (c.writeNametable ciram n v).2.rom = c.rom := by
  unfold Cart.writeNametable
  split
  · rename_i r hm
    exact c.rom_setMapper (by rw [hm]; rfl)
  · dsimp only
    split <;> rfl

/-- A pattern-table write stores into CHR-RAM only (63_mappers.md R1104). -/
theorem Cart.rom_ppuWrite (c : Cart) (a : Word) (v : Byte) : (c.ppuWrite a v).rom = c.rom := by
  unfold Cart.ppuWrite
  split
  · rename_i hr
    simp [Cart.rom, hr]
  · rfl

theorem Cart.rom_cpuRead (c : Cart) (a : Word) : (c.cpuRead a).2.rom = c.rom := by
  unfold Cart.cpuRead
  split
  · rfl
  split
  · rename_i r hm
    exact c.rom_setMapper (by rw [hm]; rfl)
  · rfl

/-- A CPU write to the cartridge reaches PRG-RAM or the mapper's registers (63_mappers.md R1103, R1121). -/
theorem Cart.rom_cpuWrite (c : Cart) (a : Word) (d : Byte) (k : Bool) : (c.cpuWrite a d k).rom = c.rom := by
  unfold Cart.cpuWrite
  split
  · split
    · rename_i r hm
      exact c.rom_setMapper (by rw [hm]; rfl)
    · rfl
  split
  · split <;> rfl
  · exact c.rom_setMapper (c.mapper.kind_write a d k)

/-! ### The bus -/

theorem State.rom_setCart {s : State} {c d : Cart} (hc : s.cart = some c) (h : d.rom = c.rom) :
    State.rom { s with cart := some d } = s.rom := by
  simp only [State.rom, hc, Option.map_some, h]

theorem State.rom_hook (s : State) (declared : Caps → Bool) {f : Mapper → Mapper} (h : ∀ m, (f m).kind = m.kind) :
    (s.hook declared f).rom = s.rom := by
  unfold State.hook
  split
  · rename_i c hc
    split
    · exact State.rom_setCart hc (c.rom_setMapper (h _))
    · rfl
  · rfl

theorem State.rom_drive (s : State) (d : Driven) : (s.drive d).2.rom = s.rom := by
  unfold State.drive
  split <;> rfl

theorem State.rom_openBus (s : State) : s.openBus.2.rom = s.rom := s.rom_drive _

theorem State.rom_addressHook (s : State) (a : Word) : (s.addressHook a).rom = s.rom :=
  s.rom_hook _ (Mapper.kind_addressUpdate · a)

theorem State.rom_ppuBusRead (s : State) (a : Word) (use : PatternUse) : (s.ppuBusRead a use).2.rom = s.rom := by
  rw [← s.rom_addressHook (a &&& 0x3FFF)]
  unfold State.ppuBusRead
  dsimp only
  generalize s.addressHook (a &&& 0x3FFF) = t
  split
  · unfold State.patternRead
    split
    · rfl
    · exact t.rom_openBus
  split
  · unfold State.nametableRead
    split
    · rename_i c hc
      exact State.rom_setCart hc (c.rom_readNametable _ _)
    · exact t.rom_openBus
  · rfl

theorem State.rom_ppuBusWrite (s : State) (a : Word) (v : Byte) : (s.ppuBusWrite a v).rom = s.rom := by
  rw [← s.rom_addressHook (a &&& 0x3FFF)]
  unfold State.ppuBusWrite
  dsimp only
  generalize s.addressHook (a &&& 0x3FFF) = t
  split
  · unfold State.patternWrite
    split
    · rename_i c hc
      exact State.rom_setCart hc (c.rom_ppuWrite _ v)
    · rfl
  split
  · unfold State.nametableWrite
    split
    · rename_i c hc
      exact State.rom_setCart hc (c.rom_writeNametable _ _ v)
    · rfl
  · rfl

theorem State.rom_readData (s : State) : s.readData.2.rom = s.rom := by
  unfold State.readData
  dsimp only
  split
  · exact s.rom_ppuBusRead _ _
  · exact (State.rom_ppuBusRead _ _ _).trans (s.rom_ppuBusRead _ _)

theorem State.rom_ppuRegRead (s : State) (k : Nat) : (s.ppuRegRead k).2.rom = s.rom := by
  unfold State.ppuRegRead
  split
  · exact State.rom_drive _ _
  · rfl
  · exact s.rom_readData
  · exact s.rom_openBus

theorem State.rom_cartRead (s : State) (a : Word) : (s.cartRead a).2.rom = s.rom := by
  unfold State.cartRead
  split
  · rename_i c hc
    exact (State.rom_drive _ _).trans (State.rom_setCart hc (c.rom_cpuRead a))
  · exact s.rom_openBus

theorem State.rom_busRead (s : State) (a : Word) : (s.busRead a).2.rom = s.rom := by
  unfold State.busRead
  split
  · rfl
  split
  · exact s.rom_ppuRegRead _
  split
  · exact State.rom_drive _ _
  split
  · exact State.rom_drive _ _
  split
  · exact State.rom_drive _ _
  split
  · exact s.rom_openBus
  · exact s.rom_cartRead a

theorem State.rom_ppuRegWrite (s : State) (k : Nat) (d : Byte) : (s.ppuRegWrite k d).rom = s.rom := by
  unfold State.ppuRegWrite
  split
  · rfl
  · rfl
  · rfl
  · rfl
  · rfl
  · rfl
  · exact s.rom_ppuBusWrite _ d
  · rfl

theorem State.rom_oamCopy (d : Byte) (n : Nat) (s : State) : (State.oamCopy d n s).rom = s.rom := by
  induction n generalizing s with
  | zero => rfl
  | succ n ih => exact (ih _).trans (s.rom_busRead _)

theorem State.rom_writeOamDma (s : State) (d : Byte) : (s.writeOamDma d).rom = s.rom := by
  have hcopy := State.rom_oamCopy d 256 s
  unfold State.writeOamDma
  generalize State.oamCopy d 256 s = t at hcopy ⊢
  exact hcopy

theorem State.rom_cartWrite (s : State) (a : Word) (v : Byte) (k : Bool) : (s.cartWrite a v k).rom = s.rom := by
  unfold State.cartWrite
  split
  · rename_i c hc
    exact State.rom_setCart hc (c.rom_cpuWrite a v k)
  · rfl

/-- A bus write stores nothing into the ROMs (20_memory.md R246). -/
theorem State.rom_busWrite (s : State) (a : Word) (v : Byte) (k : Bool) : (s.busWrite a v k).rom = s.rom := by
  unfold State.busWrite
  split
  · rfl
  split
  · exact s.rom_ppuRegWrite _ v
  split
  · rfl
  split
  · exact s.rom_writeOamDma v
  split
  · rfl
  split
  · rfl
  split
  · rfl
  split
  · rfl
  · exact s.rom_cartWrite a v k

/-- To have a given ROM part is closed under bus accesses and does not depend on the CPU registers. -/
theorem State.rom_busClosed (x : Option Rom) : BusClosed (State.rom · = x) where
  same s t := fun ⟨_, _, _, hcart, _⟩ hs => by rw [← hs, State.rom, State.rom, hcart]
  read s a hs := (s.rom_busRead a).trans hs
  write s a v k hs := (s.rom_busWrite a v k).trans hs

/-! ### The device clocks -/

/-- Both branches of a conditional action keep the ROM part. -/
theorem State.rom_ite (p : Prop) [Decidable p] {s t u : State} (ht : t.rom = s.rom) (hu : u.rom = s.rom) :
    (if p then t else u).rom = s.rom := by
  split
  · exact ht
  · exact hu

theorem State.rom_dmcReader (s : State) : s.dmcReader.rom = s.rom := by
  unfold State.dmcReader
  dsimp only
  split
  · exact s.rom_busRead _
  · rfl

theorem State.rom_apuCycle (s : State) : s.apuCycle.rom = s.rom :=
  State.rom_dmcReader { s with apu := s.apu.frameTick.timers }

theorem State.rom_patternFetch (s : State) (a : Word) : (s.patternFetch a).2.rom = s.rom :=
  calc (s.patternFetch a).2.rom
    _ = (State.hook _ Caps.scanlineIrq _).rom := State.rom_hook _ _ (Mapper.kind_latchAccess · a)
    _ = (s.ppuBusRead a s.ppu.fetchUse).2.rom := State.rom_hook _ _ (Mapper.kind_notifyA12 · _)
    _ = s.rom := s.rom_ppuBusRead _ _

theorem State.rom_unusedRead (s : State) : s.unusedRead.rom = s.rom := s.rom_ppuBusRead _ _

theorem State.rom_bgFetch (s : State) : s.bgFetch.rom = s.rom := by
  unfold State.bgFetch
  split
  · exact s.rom_ppuBusRead _ _
  · exact s.rom_ppuBusRead _ _
  · exact s.rom_patternFetch _
  · exact s.rom_patternFetch _
  · rfl
  · rfl

theorem State.rom_bgDot (s : State) : s.bgDot.rom = s.rom := by
  unfold State.bgDot
  have hfetch := State.rom_ite ((1 ≤ s.ppu.dot ∧ s.ppu.dot ≤ 256) ∨ (321 ≤ s.ppu.dot ∧ s.ppu.dot ≤ 336))
    (State.rom_bgFetch { s with ppu := s.ppu.shiftDotActions }) rfl
  exact State.rom_ite _ ((State.rom_unusedRead _).trans hfetch) hfetch

theorem State.rom_spriteLow (s : State) : s.spriteLow.2.rom = s.rom := by
  unfold State.spriteLow
  split <;> rfl

theorem State.rom_spriteFetch (s : State) : s.spriteFetch.rom = s.rom := by
  unfold State.spriteFetch
  dsimp only
  split
  · exact s.rom_unusedRead
  · exact s.rom_unusedRead
  · exact s.rom_patternFetch _
  · exact (State.rom_spriteLow _).trans (s.rom_patternFetch _)
  · rfl

theorem State.rom_spriteDot (s : State) : s.spriteDot.rom = s.rom := by
  unfold State.spriteDot
  have heval : (if s.ppu.dot = 257 then { s with ppu := s.ppu.evaluate } else s).rom = s.rom := State.rom_ite _ rfl rfl
  exact State.rom_ite _ ((State.rom_spriteFetch _).trans heval) heval

theorem State.rom_phaseDot (s : State) : s.phaseDot.rom = s.rom :=
  State.rom_ite _ (s.rom_hook _ (Mapper.kind_notifyA13 · _))
    (State.rom_ite _ (s.rom_hook _ (Mapper.kind_notifyA13 · _)) rfl)

theorem State.rom_vblankDot (s : State) : s.vblankDot.rom = s.rom := State.rom_ite _ rfl (State.rom_ite _ rfl rfl)

theorem State.rom_endLow (s : State) : s.endLow.rom = s.rom := State.rom_ite _ rfl rfl

theorem State.rom_dotActions (s : State) : s.dotActions.rom = s.rom := by
  unfold State.dotActions
  have hrendered (t : State) : t.phaseDot.bgDot.spriteDot.rom = t.rom := by
    rw [State.rom_spriteDot, State.rom_bgDot, State.rom_phaseDot]
  have hend := (State.rom_endLow _).trans
    ((State.rom_ite (s.vblankDot.ppu.rendered = true) (hrendered s.vblankDot) rfl).trans s.rom_vblankDot)
  exact State.rom_ite _ hend hend

theorem State.rom_nextDot (s : State) : s.nextDot.rom = s.rom := by
  have hhook := s.rom_hook Caps.scanlineHook (Mapper.kind_onScanline · s.ppu.scanline s.ppu.rendering)
  unfold State.nextDot
  exact State.rom_ite _ (State.rom_ite _ hhook hhook) rfl

theorem State.rom_ppuTick (s : State) : s.ppuTick.rom = s.rom := (State.rom_nextDot _).trans s.rom_dotActions

/-- Every step keeps the ROM part of the cartridge. -/
theorem step_rom (s t : State) (h : step s = .next t) : t.rom = s.rom :=
  (State.rom_busClosed s.rom).step (fun u hu => u.rom_apuCycle.trans hu) (fun u hu => u.rom_ppuTick.trans hu) s t rfl h

/-- Settles O44: the equality of the ROM parts (`step_rom`), read off field by field. -/
theorem romIsConstant : Obligations.RomIsConstant := by
  unfold Obligations.RomIsConstant
  intro s t c h hc
  have hrom : t.cart.map Cart.rom = some c.rom := by
    have := step_rom s t h
    rwa [State.rom, State.rom, hc] at this
  obtain ⟨d, hd, hdc⟩ := Option.map_eq_some_iff.mp hrom
  have hkind : d.mapper.kind = c.mapper.kind := congrArg Rom.mapper hdc
  have hram : d.chrIsRam = c.chrIsRam := congrArg Rom.chrIsRam hdc
  refine ⟨d, hd, congrArg Rom.prg hdc, congrArg Rom.prgSize hdc, congrArg Rom.chrSize hdc, hram,
    congrArg Rom.mirrorHint hdc, congrArg Prod.fst hkind, congrArg Prod.snd hkind, fun hisRom => ?_⟩
  have hchr : d.rom.chr = c.rom.chr := congrArg Rom.chr hdc
  simpa [Cart.rom, hram, hisRom] using hchr

/-! ## The frame of an instruction that stores nothing -/

/-- What an instruction that stores nothing leaves of `s` in `t`: every byte of memory and every CPU event. -/
structure State.SameStores (s t : State) : Prop where
  byteAt : ∀ l, t.byteAt l = s.byteAt l
  halt : t.halt = s.halt
  nmiPending : t.nmiPending = s.nmiPending
  resetRequest : t.resetRequest = s.resetRequest
  crashed : t.crashed = s.crashed
  cpuCycles : t.cpuCycles = s.cpuCycles
  params : t.params = s.params

theorem State.ReadKeeps.sameStores {s t : State} (h : s.ReadKeeps t) : s.SameStores t :=
  ⟨h.byteAt, h.halt, h.nmiPending, h.resetRequest, h.crashed, h.cpuCycles, h.params⟩

namespace State.SameStores

theorem refl (s : State) : s.SameStores s := (ReadKeeps.refl s).sameStores

variable {s t u : State}

theorem trans (h : s.SameStores t) (k : t.SameStores u) : s.SameStores u :=
  ⟨fun l => (k.byteAt l).trans (h.byteAt l), k.halt.trans h.halt, k.nmiPending.trans h.nmiPending,
    k.resetRequest.trans h.resetRequest, k.crashed.trans h.crashed, k.cpuCycles.trans h.cpuCycles, k.params.trans h.params⟩

theorem setCpu (h : s.SameStores t) (r : Cpu) : s.SameStores (t.setCpu r) :=
  h.trans ⟨t.byteAt_congr rfl rfl rfl rfl rfl, rfl, rfl, rfl, rfl, rfl, rfl⟩

theorem addCycles (h : s.SameStores t) (n : Nat) : s.SameStores (t.addCycles n) :=
  h.trans ⟨t.byteAt_congr rfl rfl rfl rfl rfl, rfl, rfl, rfl, rfl, rfl, rfl⟩

theorem pull (h : s.SameStores t) : s.SameStores t.pull.2 := by
  rw [State.pull_eq]
  exact h.setCpu _

theorem pullWord (h : s.SameStores t) : s.SameStores t.pullWord.2 := h.pull.pull

end State.SameStores

theorem State.branchOp_sameStores (s : State) (cond : Cpu → Bool) (b1 : Byte) (n : Nat) :
    s.SameStores (s.branchOp cond b1 n) := by
  unfold State.branchOp
  split
  · exact ((SameStores.refl s).setCpu _).addCycles _
  · exact (SameStores.refl s).addCycles _

/-- The shapes with no bus write. -/
def Shape.storesNothing : Shape → Bool
  | .store _ _ | .modify _ _ _ | .call _ | .push _ | .brk => false
  | _ => true

/-- A shape with no bus write keeps memory and events. -/
theorem Shape.run_sameStores (x : Shape) (hx : x.storesNothing = true) (n : Nat) (s : State) :
    s.SameStores (x.run n s) := by
  have hs := State.SameStores.refl s
  cases x with
  | read f o => exact ((s.load_keeps o).sameStores.setCpu _).addCycles _
  | implied f => exact (hs.setCpu _).addCycles _
  | branch cond b1 => exact s.branchOp_sameStores cond b1 n
  | jump w => exact (hs.setCpu _).addCycles _
  | jumpIndirect w => exact ((s.readPair_keeps w _).sameStores.setCpu _).addCycles _
  | ret => exact (hs.pullWord.setCpu _).addCycles _
  | pullA => exact (hs.pull.setCpu _).addCycles _
  | pullStatus => exact (hs.pull.setCpu _).addCycles _
  | rti => exact ((hs.pull.setCpu _).pullWord.setCpu _).addCycles _
  | store | modify | call | push | brk => cases hx

theorem Shape.storesNothing_jumpTo (o : Operand) : (Shape.jumpTo o).storesNothing = true := by
  unfold Shape.jumpTo
  split <;> rfl

/-- The shapes of all mnemonics but the stores, the pushes and the read-modify-writes of memory have no bus write. -/
theorem shapeOf_storesNothing (m : Mnemonic) (o : Operand)
    (hm : m ∉ [.sta, .stx, .sty, .sax, .inc, .dec, .dcp, .isc, .rla, .rra, .slo, .sre, .pha, .php, .jsr, .brk])
    (ho : m ∈ [.asl, .lsr, .rol, .ror] → o = .acc) : (shapeOf o m).storesNothing = true := by
  cases m
  case sta | stx | sty | sax | inc | dec | dcp | isc | rla | rra | slo | sre | pha | php | jsr | brk =>
    exact absurd (by decide) hm
  case asl | lsr | rol | ror => rw [ho (by decide)]; rfl
  case bcc | bcs | beq | bmi | bne | bpl | bvc | bvs => cases o <;> rfl
  case jmp => exact Shape.storesNothing_jumpTo o
  all_goals rfl

/-- Settles O29: the instruction's shape has no bus write (`shapeOf_storesNothing`), so it only reads and sets registers. -/
theorem noStoreFrame : Obligations.NoStoreFrame := by
  unfold Obligations.NoStoreFrame
  intro i s t h hm ho
  rw [exec_eq] at h
  injection h with h
  subst h
  obtain ⟨hbyte, hhalt, hnmi, hreset, hcrashed, hcycles, hparams⟩ :=
    Shape.run_sameStores _ (shapeOf_storesNothing _ _ hm ho) i.baseCycles s
  exact ⟨hbyte, hhalt, hnmi, hreset, hcrashed, hcycles, hparams⟩

/-! ## The frames of the stores and the read-modify-writes -/

/-- STA, STX, STY and SAX have the store shape. -/
theorem shapeOf_store {q : Mnemonic} (hq : q ∈ [.sta, .stx, .sty, .sax]) (m : MemMode) :
    ∃ f, shapeOf (.mem m) q = .store f m := by
  simp only [List.mem_cons, List.not_mem_nil, or_false] at hq
  obtain rfl | rfl | rfl | rfl := hq <;> exact ⟨_, rfl⟩

/-- The read-modify-writes of memory have the modify shape. -/
theorem shapeOf_modify {q : Mnemonic}
    (hq : q ∈ [.inc, .dec, .asl, .lsr, .rol, .ror, .dcp, .isc, .rla, .rra, .slo, .sre]) (m : MemMode) :
    ∃ f g, shapeOf (.mem m) q = .modify f g m := by
  simp only [List.mem_cons, List.not_mem_nil, or_false] at hq
  obtain rfl | rfl | rfl | rfl | rfl | rfl | rfl | rfl | rfl | rfl | rfl | rfl := hq <;> exact ⟨_, _, rfl⟩

theorem exec_store {i : Instr} {s t : State} {m : MemMode} (hi : i.mnemonic ∈ [.sta, .stx, .sty, .sax])
    (ho : i.operand = .mem m) (h : exec i s = .next t) : ∃ f, t = s.storeOp f m i.baseCycles := by
  obtain ⟨f, hf⟩ := shapeOf_store hi m
  rw [exec_eq, ho, hf] at h
  injection h with h
  exact ⟨f, h.symm⟩

theorem exec_modify {i : Instr} {s t : State} {m : MemMode}
    (hi : i.mnemonic ∈ [.inc, .dec, .asl, .lsr, .rol, .ror, .dcp, .isc, .rla, .rra, .slo, .sre])
    (ho : i.operand = .mem m) (h : exec i s = .next t) : ∃ f g, t = s.modifyOp f g m i.baseCycles := by
  obtain ⟨f, g, hfg⟩ := shapeOf_modify hi m
  rw [exec_eq, ho, hfg] at h
  injection h with h
  exact ⟨f, g, h.symm⟩

/-- Settles O30: a store is the reads of its addressing mode, one bus write and a count of cycles. -/
theorem storeFrame : Obligations.StoreFrame := by
  unfold Obligations.StoreFrame
  intro i s t m hi ho h
  obtain ⟨f, rfl⟩ := exec_store hi ho h
  have hr := s.resolve_keeps m
  obtain ⟨hw, hhalt⟩ := (s.resolve m).st.busWrite_keeps (s.resolve m).ea (f s.cpu) false
  have hk := hr.writeKeeps.trans hw
  rw [State.storeOp_eq]
  refine ⟨fun l hl => ?_, hk.cpu, hhalt.trans (by rw [hr.halt]), hk.resetRequest, hk.crashed, hk.cpuCycles, hk.params⟩
  calc State.byteAt { (s.resolve m).st.busWrite _ _ _ with stepCycles := s.stepCycles + i.baseCycles } l
    _ = ((s.resolve m).st.busWrite _ _ _).byteAt l := State.byteAt_congr rfl rfl rfl rfl rfl l
    _ = (s.resolve m).st.byteAt l := State.busWrite_byteAt _ _ _ _ l hl
    _ = s.byteAt l := hr.byteAt l

/-- The two writes of a read-modify-write of 0x4014 halt for 1026 cycles (60_exceptions.md R851). -/
theorem State.busWrite_busWrite_keeps (s : State) (a : Word) (v w : Byte) :
    s.WriteKeeps ((s.busWrite a v false).busWrite a w true) ∧
      ((s.busWrite a v false).busWrite a w true).halt = s.halt + (if a = 0x4014 then 1026 else 0) := by
  obtain ⟨hv, hhalt⟩ := s.busWrite_keeps a v false
  obtain ⟨hw, hhalt'⟩ := (s.busWrite a v false).busWrite_keeps a w true
  refine ⟨hv.trans hw, ?_⟩
  rw [hhalt', hhalt, Nat.add_assoc]
  split <;> rfl

theorem State.busWrite_busWrite_byteAt (s : State) (a : Word) (v w : Byte) (l : Location) (hv : s.writesAt a l = false)
    (hw : (s.busWrite a v false).writesAt a l = false) :
    ((s.busWrite a v false).busWrite a w true).byteAt l = s.byteAt l :=
  (State.busWrite_byteAt _ a w true l hw).trans (s.busWrite_byteAt a v false l hv)

/-- A register or flag that no mnemonic of `ms` writes is kept. -/
theorem eq_of_eq_or_mem {α : Type} {x y : α} {q : Mnemonic} {ms ws : List Mnemonic} (h : x = y ∨ q ∈ ws) (hq : q ∈ ms)
    (hd : ∀ q ∈ ms, q ∉ ws) : x = y :=
  h.resolve_right (hd q hq)

/-- Settles O31: the registers by `registerWriters` and `flagWriters`; memory and events through the read and two writes. -/
theorem modifyFrame : Obligations.ModifyFrame := by
  unfold Obligations.ModifyFrame
  intro i s t m hi ho h
  obtain ⟨-, hx, hy, hsp, hpc⟩ := registerWriters i s t h
  obtain ⟨-, -, -, -, hI, hD⟩ := flagWriters i s t h
  obtain ⟨f, g, ht⟩ := exec_modify hi ho h
  rw [State.modifyOp_eq] at ht
  have hr := (s.resolve_keeps m).trans ((s.resolve m).st.busRead_keeps (s.resolve m).ea)
  dsimp only at ht ⊢
  generalize (s.resolve m).ea = a at *
  generalize (s.resolve m).st.busRead a = b at *
  obtain ⟨hw, hhalt⟩ := b.2.busWrite_busWrite_keeps a b.1 (f s.cpu b.1).1
  have hk := hr.writeKeeps.trans hw
  refine ⟨fun l hl hl' => ?_, eq_of_eq_or_mem hx hi (by decide), eq_of_eq_or_mem hy hi (by decide),
    eq_of_eq_or_mem hsp hi (by decide), eq_of_eq_or_mem hpc hi (by decide), eq_of_eq_or_mem hI hi (by decide),
    eq_of_eq_or_mem hD hi (by decide), ht ▸ hhalt.trans (by rw [hr.halt]), ht ▸ hk.resetRequest, ht ▸ hk.crashed,
    ht ▸ hk.cpuCycles, ht ▸ hk.params⟩
  calc t.byteAt l
    _ = ((b.2.busWrite a b.1 false).busWrite a (f s.cpu b.1).1 true).byteAt l :=
      ht ▸ State.byteAt_congr rfl rfl rfl rfl rfl l
    _ = b.2.byteAt l := b.2.busWrite_busWrite_byteAt a b.1 _ l hl hl'
    _ = s.byteAt l := hr.byteAt l

/-! ## The mirrors of RAM and palette -/

theorem ramIndex_eq (a : Word) : ramIndex a = a.toNat % 0x800 := by
  unfold ramIndex
  rw [BitVec.toNat_and]
  exact Nat.and_two_pow_sub_one_eq_mod a.toNat 11

/-- Settles O45: both accesses are RAM accesses at the mirrored index, and the storage law of reads after writes. -/
theorem ramMirrored : Obligations.RamMirrored := by
  unfold Obligations.RamMirrored
  intro s a b v k hwf ha hb
  have hread (t : State) : t.busRead b = (t.ram.read (b.toNat % 0x800), t) := by
    rw [t.busRead_ram b hb, ramIndex_eq]
  have hwrite : s.busWrite a v k = { s with ram := s.ram.write (a.toNat % 0x800) v } := by
    rw [State.busWrite, if_pos (show a < 0x2000 from ha), ramIndex_eq]
  refine ⟨hread s, hwrite, ?_⟩
  rw [hread, hread, hwrite]
  split
  · rename_i hab
    rw [← hab]
    exact Store.read_write_self _ _ _ hwf
  · rename_i hab
    exact Store.read_write_ne _ _ _ _ (Ne.symm hab)

/-- The fold of 20_memory.md R233 as a list of the four folded entries. -/
theorem paletteIndex_eq (n : Nat) :
    paletteIndex n = if n % 32 ∈ [0x10, 0x14, 0x18, 0x1C] then n % 32 - 0x10 else n % 32 := by
  simp [paletteIndex]

/-- Masking to 14 bits leaves the PPU addresses as they are. -/
theorem and_3FFF_of_lt (a : Word) (h : a.toNat < 0x4000) : a &&& 0x3FFF = a := by
  apply BitVec.eq_of_toNat_eq
  rw [BitVec.toNat_and]
  exact (Nat.and_two_pow_sub_one_eq_mod a.toNat 14).trans (Nat.mod_eq_of_lt h)

theorem State.ppuBusRead_palette (s : State) (a : Word) (h : 0x3F00 ≤ a.toNat) (h' : a.toNat < 0x4000) :
    (s.ppuBusRead a).1 = (s.ppu.palette.read (paletteIndex a.toNat)).setWidth 8 := by
  have h1 : ¬ a < 0x2000 := by bv_omega
  have h2 : ¬ a < 0x3F00 := by bv_omega
  simp only [State.ppuBusRead, and_3FFF_of_lt a h', if_neg h1, if_neg h2, (s.addressHook_keeps a).palette]

theorem State.ppuBusWrite_palette (s : State) (a : Word) (v : Byte) (h : 0x3F00 ≤ a.toNat) (h' : a.toNat < 0x4000) :
    (s.ppuBusWrite a v).ppu.palette = s.ppu.palette.write (paletteIndex a.toNat) (v.setWidth 6) := by
  have h1 : ¬ a < 0x2000 := by bv_omega
  have h2 : ¬ a < 0x3F00 := by bv_omega
  simp only [State.ppuBusWrite, and_3FFF_of_lt a h', if_neg h1, if_neg h2, (s.addressHook_keeps a).palette]

/-- The six stored bits of a palette byte. -/
theorem setWidth_6_8 (v : Byte) : (v.setWidth 6).setWidth 8 = v &&& 0x3F := by
  revert v; decide

/-- Settles O51: both accesses reach the folded entry, and the storage law of reads after writes. -/
theorem paletteMirrored : Obligations.PaletteMirrored := by
  unfold Obligations.PaletteMirrored
  intro s a b v hwf ha ha' hb hb'
  simp only [← paletteIndex_eq, State.ppuBusRead_palette _ b hb hb', s.ppuBusWrite_palette a v ha ha']
  refine ⟨fun hab => ?_, fun hab => ?_⟩
  · rw [hab, Store.read_write_self _ _ _ hwf, setWidth_6_8]
  · rw [Store.read_write_ne _ _ _ _ (Ne.symm hab)]

end Sys2Proof.Machine
end

section
/-! PROOFS. The encoding (30_encoding.md): the opcode map read backwards, the round trip of decoder and encoder in both
directions (R301–R305, R307), and the step that fetches one of the 27 opcodes outside the map (R306; 60_exceptions.md R840). -/

namespace Sys2Proof

/-! ## The opcode map, cell by cell -/

/-- The opcodes outside the map (30_encoding.md R306). -/
def illegalOpcodes : List Byte := [0x02, 0x12, 0x22, 0x32, 0x42, 0x52, 0x62, 0x72, 0x92, 0xB2, 0xD2, 0xF2, 0x1A, 0x3A,
  0x5A, 0x7A, 0xDA, 0xFA, 0x8B, 0x93, 0x9B, 0x9C, 0x9E, 0x9F, 0xAB, 0xBB, 0xEB]

/-- The cells `x`, read with the operand bytes `b1` and `b2`, and `y` have the same opcode, and the instruction in `x` has its
operand from those bytes. -/
def Instr.SameCell (b1 b2 : Byte) (x y : Option Instr) : Prop :=
  x.map Instr.opcode = y.map Instr.opcode ∧ ∀ i, x = some i → i.operand.bytes.Fits b1 b2

/-- The operand bytes fill a cell of the map and choose none: the walk over its sixteen lines and their columns. -/
theorem Instr.ofBytes_sameCell (op b1 b2 : Byte) :
    Instr.SameCell b1 b2 (Instr.ofBytes op b1 b2) (Instr.ofBytes op 0 0) := by
  unfold Instr.ofBytes decodeRow0 decodeRow1 decodeRow2 decodeRow3 decodeRow4 decodeRow5 decodeRow6 decodeRow7
    decodeRow8 decodeRow9 decodeRowA decodeRowB decodeRowC decodeRowD decodeRowE decodeRowF
  dsimp only
  split
  case h_17 => exact ⟨rfl, nofun⟩
  all_goals split <;> exact ⟨rfl, fun _ h => by cases h <;> trivial⟩

/-- With operand bytes 0, a cell is empty for the illegal opcodes and otherwise holds an instruction of its own opcode. -/
theorem Instr.opcode_ofBytes_zero (op : Byte) :
    (Instr.ofBytes op 0 0).map Instr.opcode = if op ∈ illegalOpcodes then none else some op := by
  revert op
  decide

theorem Instr.opcode_ofBytes (op b1 b2 : Byte) :
    (Instr.ofBytes op b1 b2).map Instr.opcode = if op ∈ illegalOpcodes then none else some op :=
  (Instr.ofBytes_sameCell op b1 b2).1.trans (Instr.opcode_ofBytes_zero op)

theorem Instr.ofBytes_eq_none_iff {op b1 b2 : Byte} : Instr.ofBytes op b1 b2 = none ↔ op ∈ illegalOpcodes := by
  rw [← Option.map_eq_none_iff (f := Instr.opcode), Instr.opcode_ofBytes]
  split
  · next hmem => exact iff_of_true rfl hmem
  · next hmem => exact iff_of_false nofun hmem

/-- An instruction in the map is at its own opcode. -/
theorem Instr.opcode_of_ofBytes {op b1 b2 : Byte} {i : Instr} (h : Instr.ofBytes op b1 b2 = some i) : i.opcode = op := by
  have hop := Instr.opcode_ofBytes op b1 b2
  rw [h] at hop
  split at hop
  · cases hop
  · exact Option.some.inj hop

/-- The map holds each instruction at its opcode, read from its operand bytes, and nothing else. -/
theorem Instr.ofBytes_eq_some_iff {op b1 b2 : Byte} {i : Instr} :
    Instr.ofBytes op b1 b2 = some i ↔ i.opcode = op ∧ i.operand.bytes.Fits b1 b2 := by
  constructor
  · exact fun h => ⟨Instr.opcode_of_ofBytes h, (Instr.ofBytes_sameCell op b1 b2).2 i h⟩
  · rintro ⟨rfl, hfits⟩
    exact i.ofBytes_opcode b1 b2 hfits

/-! ## The round trip -/

/-- The operand bytes in address order (30_encoding.md R303). -/
def OperandBytes.toList : OperandBytes → List Byte
  | .none => []
  | .one b1 => [b1]
  | .two w => [w.extractLsb' 0 8, w.extractLsb' 8 8]

theorem encode_eq (i : Instr) : encode i = i.opcode :: i.operand.bytes.toList := by
  unfold encode
  cases i.operand.bytes <;> rfl

/-- A word is `b2 : b1` iff these are its bytes. -/
theorem word_append_eq_iff (b1 b2 : Byte) (w : Word) :
    b2 ++ b1 = w ↔ b1 = w.extractLsb' 0 8 ∧ b2 = w.extractLsb' 8 8 := by
  constructor
  · rintro rfl
    exact ⟨BitVec.extractLsb'_append_eq_right.symm, BitVec.extractLsb'_append_eq_left.symm⟩
  · rintro ⟨rfl, rfl⟩
    exact word_of_bytes w

/-- Bytes are an operand's and a rest iff they are long enough, the operand is read from the first two, and the rest is what
is left. -/
theorem OperandBytes.eq_toList_append_iff (o : OperandBytes) (bytes rest : List Byte) :
    bytes = o.toList ++ rest ↔
      o.Fits (bytes.getD 0 0) (bytes.getD 1 0) ∧ o.length ≤ bytes.length + 1 ∧ bytes.drop (o.length - 1) = rest := by
  cases o with
  | none => simp [toList, Fits, length]
  | one b =>
    cases bytes with
    | nil => simp [toList, length]
    | cons x xs => simp [toList, Fits, length]
  | two w =>
    match bytes with
    | [] => simp [toList, length]
    | [x] => simp [toList, length]
    | x :: y :: xs => simp [toList, Fits, length, word_append_eq_iff, and_assoc]

/-- What the decoder answers with an instruction. -/
theorem decode_cons_eq_ok_iff {op : Byte} {bytes rest : List Byte} {i : Instr} :
    decode (op :: bytes) = .ok (i, rest) ↔
      Instr.ofBytes op (bytes.getD 0 0) (bytes.getD 1 0) = some i ∧
        i.length ≤ bytes.length + 1 ∧ bytes.drop (i.length - 1) = rest := by
  rw [decode]
  split
  · next hnone =>
    rw [hnone]
    simp
  · next j hj =>
    rw [hj, Option.some.injEq]
    constructor
    · intro h
      split at h
      · cases h
      · next hlen =>
        cases h
        exact ⟨rfl, Nat.not_lt.mp hlen, rfl⟩
    · rintro ⟨rfl, hlen, rfl⟩
      exact if_neg (Nat.not_lt.mpr hlen)

/-- Decoding answers an instruction and a rest iff the bytes are its encoding and the rest. -/
theorem decode_eq_ok_iff {bytes rest : List Byte} {i : Instr} :
    decode bytes = .ok (i, rest) ↔ bytes = encode i ++ rest := by
  cases bytes with
  | nil => simp [decode, encode_eq]
  | cons op bytes =>
    rw [decode_cons_eq_ok_iff, Instr.ofBytes_eq_some_iff, encode_eq, List.cons_append, List.cons.injEq,
      OperandBytes.eq_toList_append_iff, and_assoc, eq_comm]
    rfl

/-- Settles O1, by `form_statement` and the round trip. -/
theorem decodeEncodeAgree : Obligations.DecodeEncodeAgree := by
  unfold Obligations.DecodeEncodeAgree
  exact fun i rest => ⟨i.form_statement.1, decode_eq_ok_iff.mpr rfl⟩

/-- Settles O2, the other direction of the round trip. -/
theorem decodedBytesAreTheEncoding : Obligations.DecodedBytesAreTheEncoding := by
  unfold Obligations.DecodedBytesAreTheEncoding
  exact fun _ _ _ => decode_eq_ok_iff.mp

/-- Settles O4: the map evaluates on the seven words. -/
theorem fewWordsDecode : Obligations.FewWordsDecode := by
  unfold Obligations.FewWordsDecode
  exact ⟨rfl, rfl, rfl, rfl, rfl, rfl, rfl⟩

end Sys2Proof

namespace Sys2Proof.Machine

/-! ## The step that fetches an illegal opcode -/

/-- With a cartridge, and neither frozen nor halted, a step opens the gate and runs the instruction at PC. -/
theorem step_eq_runInstruction {s : State} (hcart : s.cart.isSome = true) (hfrozen : s.frozen = false)
    (hhalted : s.halted = false) : step s = s.openGate.runInstruction := by
  obtain ⟨c, hc⟩ := Option.isSome_iff_exists.mp hcart
  simp [step, hc, State.systemStep, hfrozen, hhalted]

theorem opcodeLength_of_illegal {op : Byte} (h : op ∈ illegalOpcodes) : opcodeLength op = none := by
  rw [opcodeLength, Instr.ofBytes_eq_none_iff.mpr h, Option.map_none]

/-- The fetch of an illegal opcode is its one read, and the instruction's run the crash. -/
theorem State.runInstruction_of_illegal {s : State} (h : (s.busRead s.cpu.pc).1 ∈ illegalOpcodes) :
    s.runInstruction = .next (s.busRead s.cpu.pc).2.crash := by
  have hfetch : s.fetch = ⟨none, (s.busRead s.cpu.pc).2⟩ := by
    simp [State.fetch, opcodeLength_of_illegal h]
  rw [State.runInstruction, hfetch]

/-- Settles O3: the empty cells of the map, and the crash after the one read, which keeps registers and memories. -/
theorem illegalOpcodesCrash : Obligations.IllegalOpcodesCrash := by
  unfold Obligations.IllegalOpcodesCrash
  refine ⟨fun op b1 b2 => Instr.ofBytes_eq_none_iff, fun s hcart hfrozen hhalted hillegal => ?_⟩
  have hkeeps := s.openGate.busRead_keeps s.openGate.cpu.pc
  refine ⟨?_, hkeeps.cpu, hkeeps.byteAt⟩
  rw [step_eq_runInstruction hcart hfrozen hhalted, State.runInstruction_of_illegal hillegal, State.crash]
  simp only [hkeeps.cpu]

end Sys2Proof.Machine
end

section
/-! PROOFS. Instructions and operands (40_addressing.md): the base cycles of each mnemonic and mode and the bounds of an
instruction's cycles (R417, R418; 70_reset_and_hazards.md R1341), the fetch and the step that runs what it decodes (R401), and
the effective addresses, page-cross tests and pointer reads of the modes (R405–R414). -/

namespace Sys2Proof

/-! ## The base cycles of each mnemonic and mode -/

/-- The base cycles a mnemonic may have in each mode (40_addressing.md R418). -/
def Mnemonic.cycleRow : Mnemonic → List (Mode × Nat)
  | .lda | .ldx | .ldy | .lax | .adc | .sbc | .cmp | .cpx | .cpy | .and | .ora | .eor | .bit | .ign | .skb | .alr | .anc
  | .arr | .axs =>
    [(.imm, 2), (.zp, 3), (.zpx, 4), (.zpy, 4), (.abs, 4), (.absx, 4), (.absy, 4), (.indx, 6), (.indy, 5)]
  | .sta | .stx | .sty | .sax =>
    [(.zp, 3), (.zpx, 4), (.zpy, 4), (.abs, 4), (.absx, 5), (.absy, 5), (.indx, 6), (.indy, 6)]
  | .inc | .dec | .asl | .lsr | .rol | .ror | .dcp | .isc | .rla | .rra | .slo | .sre =>
    [(.acc, 2), (.zp, 5), (.zpx, 6), (.abs, 6), (.absx, 7), (.absy, 7), (.indx, 8), (.indy, 8)]
  | .tax | .tay | .tsx | .txa | .txs | .tya | .inx | .iny | .dex | .dey | .clc | .cld | .cli | .clv | .sec | .sed | .sei
  | .nop => [(.imp, 2)]
  | .bcc | .bcs | .beq | .bmi | .bne | .bpl | .bvc | .bvs => [(.rel, 2)]
  | .pha | .php => [(.imp, 3)]
  | .pla | .plp => [(.imp, 4)]
  | .jmp => [(.abs, 3), (.ind, 5)]
  | .jsr => [(.abs, 6)]
  | .rts | .rti => [(.imp, 6)]
  | .brk => [(.imp, 7)]

theorem Instr.mem_cycleRow (i : Instr) : (i.operand.mode, i.baseCycles) ∈ i.mnemonic.cycleRow := by
  have h : i.mnemonic.cycleRow.contains (i.operand.mode, i.baseCycles) = true := by cases i <;> rfl
  exact List.contains_iff_mem.mp h

/-- Mnemonics that share a row have their mode and base cycles in it. -/
theorem Instr.mem_of_cycleRow {ms : List Mnemonic} {row : List (Mode × Nat)} (h : ∀ m ∈ ms, m.cycleRow = row) (i : Instr)
    (hi : i.mnemonic ∈ ms) : (i.operand.mode, i.baseCycles) ∈ row :=
  h _ hi ▸ i.mem_cycleRow

/-! ## Length and modes -/

/-- The opcode alone gives an instruction's length (30_encoding.md R300). -/
theorem Instr.opcodeLength_opcode (i : Instr) : opcodeLength i.opcode = some i.length := by
  cases i <;> (dsimp only [Instr.opcode]; rfl)

/-- Zero-page-Y and indirect stand in the rows of a few mnemonics only (40_addressing.md R408, R413). -/
theorem Mnemonic.modes_zpy_ind (m : Mnemonic) :
    (.zpy ∈ m.modes → m ∈ [.ldx, .stx, .lax, .sax]) ∧ (.ind ∈ m.modes → m = .jmp) := by
  cases m <;> decide

end Sys2Proof

namespace Sys2Proof.Machine

/-! ## The cycles an instruction takes -/

/-- The most cycles a shape can take on top of its base cycles: one for a page crossed by a read (40_addressing.md R417), two
for a branch taken to another page (44_control_transfer.md R600). -/
def Shape.maxExtra : Shape → Nat
  | .read _ _ => 1
  | .branch _ _ => 2
  | _ => 0

theorem Shape.maxExtra_le (x : Shape) : x.maxExtra ≤ 2 := by
  cases x <;> simp [maxExtra]

theorem crossCycle_le (crossed : Bool) : crossCycle crossed ≤ 1 := by
  cases crossed <;> decide

theorem State.push_stepCycles (s : State) (v : Byte) : (s.push v).stepCycles = s.stepCycles := by
  rw [State.push_eq]

theorem State.pull_stepCycles (s : State) : s.pull.2.stepCycles = s.stepCycles := by
  rw [State.pull_eq]

theorem State.pullWord_stepCycles (s : State) : s.pullWord.2.stepCycles = s.stepCycles :=
  (State.pull_stepCycles _).trans s.pull_stepCycles

theorem State.readPair_stepCycles (s : State) (a b : Word) : (s.readPair a b).2.stepCycles = s.stepCycles :=
  (s.readPair_keeps a b).stepCycles

theorem State.enter_stepCycles (s : State) (vector ret : Word) (b : Bool) :
    (s.enter vector ret b).stepCycles = s.stepCycles := by
  rw [State.enter_eq]
  exact State.readPair_stepCycles _ vector (vector + 1)

theorem State.branchOp_stepCycles (s : State) (cond : Cpu → Bool) (b1 : Byte) (n : Nat) :
    ∃ k ≤ 2, (s.branchOp cond b1 n).stepCycles = s.stepCycles + (n + k) := by
  unfold State.branchOp
  split
  · exact ⟨_, by split <;> decide, rfl⟩
  · exact ⟨0, by decide, rfl⟩

/-- Running a shape counts its base cycles and at most its extra ones. -/
theorem Shape.run_stepCycles (x : Shape) (n : Nat) (s : State) :
    ∃ k ≤ x.maxExtra, (x.run n s).stepCycles = s.stepCycles + (n + k) := by
  cases x with
  | read f o => exact ⟨_, crossCycle_le (s.load o).crossed, by rw [Shape.run, State.readOp_eq]⟩
  | store f m => exact ⟨0, Nat.le_refl _, by rw [Shape.run, State.storeOp_eq]; rfl⟩
  | modify f g m => exact ⟨0, Nat.le_refl _, by rw [Shape.run, State.modifyOp_eq]; rfl⟩
  | branch cond b1 => exact s.branchOp_stepCycles cond b1 n
  | implied | jump => exact ⟨0, Nat.le_refl _, rfl⟩
  | jumpIndirect w => exact ⟨0, Nat.le_refl _, congrArg (· + n) (s.readPair_stepCycles w _)⟩
  | call w => exact ⟨0, Nat.le_refl _, congrArg (· + n) ((State.push_stepCycles _ _).trans (s.push_stepCycles _))⟩
  | ret => exact ⟨0, Nat.le_refl _, congrArg (· + n) s.pullWord_stepCycles⟩
  | push f => exact ⟨0, Nat.le_refl _, congrArg (· + n) (s.push_stepCycles _)⟩
  | pullA | pullStatus => exact ⟨0, Nat.le_refl _, congrArg (· + n) s.pull_stepCycles⟩
  | brk => exact ⟨0, Nat.le_refl _, congrArg (· + n) (s.enter_stepCycles _ _ _)⟩
  | rti => exact ⟨0, Nat.le_refl _, congrArg (· + n) ((State.pullWord_stepCycles _).trans s.pull_stepCycles)⟩

/-- At least two base cycles, and at most eight with the extra ones: no read has more than six base cycles, and the branches
have two. -/
theorem baseCycles_bounds (i : Instr) :
    2 ≤ i.baseCycles ∧ i.baseCycles + (shapeOf i.operand i.mnemonic).maxExtra ≤ 8 := by
  cases i <;> exact ⟨Nat.le_of_ble_eq_true rfl, Nat.le_of_ble_eq_true rfl⟩

/-- Settles O33: the rows hold every instruction (`Instr.mem_cycleRow`); the cycles on top are those of its shape. -/
theorem cycleBound : Obligations.CycleBound := by
  unfold Obligations.CycleBound
  refine ⟨fun i => ?_, fun i s t h => ?_⟩
  · have hrow {ms row} h := i.mem_of_cycleRow (ms := ms) (row := row) h
    exact ⟨hrow (by decide), hrow (by decide), hrow (by decide), hrow (by decide), hrow (by decide), hrow (by decide),
      hrow (by decide), hrow (by decide), hrow (by decide), hrow (by decide), hrow (by decide)⟩
  · rw [exec_eq] at h
    injection h with h
    obtain ⟨hmin, hmax⟩ := baseCycles_bounds i
    obtain ⟨k, hk, hrun⟩ := (shapeOf i.operand i.mnemonic).run_stepCycles i.baseCycles s
    have hk2 := Nat.le_trans hk (Shape.maxExtra_le _)
    rw [← h, hrun]
    omega

/-! ## The fetch and the step that runs what it decodes -/

theorem State.readBytes_two (s : State) (a : Word) :
    s.readBytes a 2 =
      let low := s.busRead a
      let high := low.2.busRead (a + 1)
      ([low.1, high.1], high.2) := rfl

/-- When the bytes after the opcode are the operand of `i`, the operand fetches read them and give `i`. -/
theorem State.fetchOperands_of_bytes (s : State) (pc : Word) (i : Instr)
    (h : (s.readBytes (pc + 1) (i.length - 1)).1 = i.operand.bytes.toList) :
    s.fetchOperands pc i.opcode i.length =
      ⟨some i, (s.readBytes (pc + 1) (i.length - 1)).2.setPc (pc + BitVec.ofNat 16 i.length)⟩ := by
  have hmap := i.ofBytes_opcode
  unfold Instr.length at h ⊢
  generalize i.operand.bytes = o at h hmap ⊢
  cases o with
  | none => exact congrArg (Fetched.mk · _) (hmap 0 0 trivial)
  | one b => exact congrArg (Fetched.mk · _) (hmap _ 0 (List.head_eq_of_cons_eq h))
  | two w =>
    have hread := s.readBytes_two (pc + 1)
    rw [show pc + 1 + 1 = pc + 2 from BitVec.add_assoc pc 1 1] at hread
    simp only [OperandBytes.length, Nat.add_one_sub_one, hread, OperandBytes.toList, List.cons.injEq] at h ⊢
    obtain ⟨hlow, hhigh, -⟩ := h
    exact congrArg (Fetched.mk · _) (hmap _ _ ((word_append_eq_iff _ _ w).mpr ⟨hlow, hhigh⟩))

/-- When the bytes at PC are the encoding of `i`, the fetch reads them, gives `i` and leaves PC after them. -/
theorem State.fetch_of_bytes (s : State) (i : Instr) (h : (s.readBytes s.cpu.pc i.length).1 = encode i) :
    s.fetch = ⟨some i, (s.readBytes s.cpu.pc i.length).2.setPc (s.cpu.pc + BitVec.ofNat 16 i.length)⟩ := by
  obtain ⟨n, hn⟩ : ∃ n, i.length = n + 1 := ⟨i.length - 1, (Nat.sub_add_cancel i.length_le.1).symm⟩
  have hoperand := State.fetchOperands_of_bytes (s.busRead s.cpu.pc).2 s.cpu.pc i
  rw [hn] at h hoperand ⊢
  rw [encode_eq, readBytes, List.cons.injEq] at h
  obtain ⟨hop, hbytes⟩ := h
  simp only [fetch, hop, i.opcodeLength_opcode, hn]
  exact hoperand hbytes

/-- Settles O5: the bytes are the encoding of `i` (`decode_eq_ok_iff`), so the fetch gives `i`. -/
theorem stepRunsDecodedInstruction : Obligations.StepRunsDecodedInstruction := by
  unfold Obligations.StepRunsDecodedInstruction
  intro s t i hcart hfrozen hhalted _ g f hdecode hexec
  have hfetch : g.fetch = ⟨some i, f.2.setPc (g.cpu.pc + BitVec.ofNat 16 i.length)⟩ :=
    g.fetch_of_bytes i ((decode_eq_ok_iff.mp hdecode).trans (List.append_nil _))
  rw [step_eq_runInstruction hcart hfrozen hhalted, State.runInstruction, hfetch]
  dsimp only
  rw [hexec]
  rfl

/-! ## Effective addresses and pointer reads -/

theorem hi_eq (w : Word) : hi w = w.extractLsb' 8 8 := BitVec.setWidth_ushiftRight_eq_extractLsb

/-- Indexing adds modulo 65536, and crosses a page iff the high byte changes (40_addressing.md R410, R411, R414). -/
theorem indexed_eq (base : Word) (index : Byte) (s : State) :
    indexed base index s =
      ⟨base + index.setWidth 16, base.extractLsb' 8 8 != (base + index.setWidth 16).extractLsb' 8 8, s⟩ := by
  simp only [indexed, hi_eq, zext16]

/-- Clearing the low byte shifts it out and back. -/
theorem and_FF00_eq (w : Word) : w &&& (0xFF00 : Word) = w >>> 8 <<< 8 := (BitVec.shiftLeft_ushiftRight (n := 8)).symm

/-- The next address in the page of `w` is the next address, when `w` is not the last of its page. -/
theorem next_in_page (w : Word) (h : w.extractLsb' 0 8 ≠ 0xFF) : (w &&& 0xFF00) ||| ((w + 1) &&& 0x00FF) = w + 1 := by
  have hlow : w.toNat % 256 ≠ 255 := fun h' => h (BitVec.eq_of_toNat_eq (by simpa using h'))
  have hpage : w >>> 8 = (w + 1) >>> 8 := by bv_omega
  calc (w &&& 0xFF00) ||| ((w + 1) &&& 0x00FF)
    _ = ((w + 1) &&& 0xFF00) ||| ((w + 1) &&& 0x00FF) := by rw [and_FF00_eq, hpage, ← and_FF00_eq]
    _ = (w + 1) &&& 0xFFFF := (BitVec.and_or_distrib_left ..).symm
    _ = w + 1 := BitVec.and_allOnes

/-- Settles O6: the indexed modes by `indexed_eq`, `Read16Bug` by `next_in_page`; the other modes are their definitions. -/
theorem addressingModes : Obligations.AddressingModes := by
  unfold Obligations.AddressingModes
  refine ⟨fun s b => ⟨rfl, rfl, rfl, rfl, rfl, rfl, rfl, indexed_eq ..⟩, fun s m => ⟨rfl, rfl, rfl⟩, fun s w =>
    ⟨rfl, indexed_eq .., indexed_eq .., rfl, fun h => congrArg (s.readPair w) (next_in_page w h)⟩, fun i => ?_⟩
  have hmodes := Mnemonic.modes_zpy_ind i.mnemonic
  exact ⟨fun h => hmodes.1 (h ▸ i.mode_mem_modes), fun h => hmodes.2 (h ▸ i.mode_mem_modes)⟩

end Sys2Proof.Machine
end

section
/-! PROOFS. Loads, stores and register transfers (41_load_store_transfer.md; 42_arithmetic_compare.md R509–R512;
46_unofficial.md R705, R706): the next state of an instruction of the read, the store and the implied shape, and of those
that set N and Z from the byte they move. -/

namespace Sys2Proof.Machine

/-- `SetNZ` in bits: N is bit 7 (00_scope.md R15). -/
theorem Cpu.setNZ_eq (r : Cpu) (v : Byte) : r.setNZ v = { r with n := v.getLsbD 7, z := v == 0 } := by
  rw [Cpu.setNZ, BitVec.msb_eq_getLsbD_last]

variable {i : Instr} {q : Mnemonic}

/-! ## The next state of a shape -/

/-- A mnemonic of the read shape answers the state after the operand's reads, with the registers `f` gives. -/
theorem exec_read {f : Cpu → Byte → Cpu} (hi : i.mnemonic = q) (hq : ∀ o, shapeOf o q = .read f o) (s : State) :
    let l := s.load i.operand
    exec i s = .next { l.st with
      cpu := f s.cpu l.val
      stepCycles := s.stepCycles + i.baseCycles + (if l.crossed then 1 else 0) } := by
  rw [exec_eq, hi, hq, Shape.run, State.readOp_eq, ← Nat.add_assoc]
  rfl

/-- A mnemonic that stores has a memory operand, and answers the state after its one write (40_addressing.md R402). -/
theorem exec_storeTo {f : Cpu → Byte} (hi : i.mnemonic = q) (hq : ∀ o, shapeOf o q = .storeTo f o)
    (hmodes : ∀ p ∈ q.modes, p ∉ [Mode.imp, .acc, .imm, .ind, .rel]) (s : State) :
    ∃ m, i.operand = .mem m ∧ exec i s = .next { (s.resolve m).st.busWrite (s.resolve m).ea (f s.cpu) false with
      stepCycles := s.stepCycles + i.baseCycles } := by
  obtain ⟨m, hm⟩ := Operand.eq_mem i.mode_mem_modes (hi ▸ hmodes)
  exact ⟨m, hm, by rw [exec_eq, hi, hq, hm, Shape.storeTo, Shape.run, State.storeOp_eq]⟩

/-- An instruction of the implied shape answers the registers `f` gives. -/
theorem exec_implied {f : Cpu → Cpu} (hi : shapeOf i.operand i.mnemonic = .implied f) (s : State) :
    exec i s = .next { s with cpu := f s.cpu, stepCycles := s.stepCycles + i.baseCycles } := by
  rw [exec_eq, hi]
  rfl

/-! ## Setting N and Z from the byte moved -/

/-- A load: the registers `r` gives with the loaded byte, and N and Z from that byte. -/
theorem exec_load (r : Cpu → Byte → Cpu) (hi : i.mnemonic = q)
    (hq : ∀ o, shapeOf o q = .read (fun c v => (r c v).setNZ v) o) (s : State) :
    let l := s.load i.operand
    exec i s = .next { l.st with
      cpu := { r s.cpu l.val with n := l.val.getLsbD 7, z := l.val == 0 }
      stepCycles := s.stepCycles + i.baseCycles + (if l.crossed then 1 else 0) } := by
  dsimp only
  rw [exec_read hi hq, Cpu.setNZ_eq]

/-- A transfer or count of a register: the registers `r` gives, and N and Z from the byte `v` gives. -/
theorem exec_transfer (r : Cpu → Cpu) (v : Cpu → Byte)
    (hi : shapeOf i.operand i.mnemonic = .implied fun c => (r c).setNZ (v c)) (s : State) :
    exec i s = .next { s with
      cpu := { r s.cpu with n := (v s.cpu).getLsbD 7, z := v s.cpu == 0 }
      stepCycles := s.stepCycles + i.baseCycles } := by
  rw [exec_implied hi, Cpu.setNZ_eq]

end Sys2Proof.Machine

namespace Sys2Proof.Machine

/-! ## The loads, the stores, the transfers -/

/-- Settles O9: each is a load (`exec_load`) into A, X, Y, or A and X. -/
theorem loadResults : Obligations.LoadResults := by
  unfold Obligations.LoadResults
  exact fun i s =>
    ⟨fun hi => exec_load (fun c v => { c with a := v }) hi (fun _ => rfl) s,
      fun hi => exec_load (fun c v => { c with x := v }) hi (fun _ => rfl) s,
      fun hi => exec_load (fun c v => { c with y := v }) hi (fun _ => rfl) s,
      fun hi => exec_load (fun c v => { c with a := v, x := v }) hi (fun _ => rfl) s⟩

/-- Settles O10: none of the four has a mode without an effective address, and each stores its byte (`exec_storeTo`). -/
theorem storeResults : Obligations.StoreResults := by
  unfold Obligations.StoreResults
  exact fun i s =>
    ⟨fun hi => exec_storeTo hi (fun _ => rfl) (by decide) s, fun hi => exec_storeTo hi (fun _ => rfl) (by decide) s,
      fun hi => exec_storeTo hi (fun _ => rfl) (by decide) s, fun hi => exec_storeTo hi (fun _ => rfl) (by decide) s⟩

/-- Settles O11: each is of the implied shape, with two base cycles, and all but TXS set N and Z (`exec_transfer`). -/
theorem registerResults : Obligations.RegisterResults := by
  unfold Obligations.RegisterResults
  exact fun s =>
    ⟨exec_transfer (i := .tax) (fun c => { c with x := c.a }) Cpu.a rfl s,
      exec_transfer (i := .tay) (fun c => { c with y := c.a }) Cpu.a rfl s,
      exec_transfer (i := .tsx) (fun c => { c with x := c.sp }) Cpu.sp rfl s,
      exec_transfer (i := .txa) (fun c => { c with a := c.x }) Cpu.x rfl s,
      exec_transfer (i := .tya) (fun c => { c with a := c.y }) Cpu.y rfl s,
      exec_implied (i := .txs) rfl s,
      exec_transfer (i := .inx) (fun c => { c with x := c.x + 1 }) (·.x + 1) rfl s,
      exec_transfer (i := .iny) (fun c => { c with y := c.y + 1 }) (·.y + 1) rfl s,
      exec_transfer (i := .dex) (fun c => { c with x := c.x - 1 }) (·.x - 1) rfl s,
      exec_transfer (i := .dey) (fun c => { c with y := c.y - 1 }) (·.y - 1) rfl s⟩

end Sys2Proof.Machine
end

section
/-! PROOFS. Arithmetic and compare (42_arithmetic_compare.md) and the read-modify-writes of memory (R507, R508;
43_logic_shift.md R555–R558): the adder and the compare in numbers and sign bits, then each mnemonic's next state through the
shape it has. -/

namespace Sys2Proof.Machine

/-! ## The adder and the compare -/

/-- A byte masked to bit 7 is not zero iff its sign bit is 1. -/
theorem and_0x80_bne_zero (x : Byte) : (x &&& 0x80 != 0) = x.msb := by
  rw [BitVec.msb_eq_getLsbD_last, show (0x80 : Byte) = BitVec.twoPow 8 7 from rfl, BitVec.and_twoPow]
  cases x.getLsbD 7 <;> rfl

/-- V by sign bits: the operands share one and the result has the other (42_arithmetic_compare.md R500). -/
theorem overflow_eq (a m res : Byte) :
    ((a ^^^ res) &&& (m ^^^ res) &&& 0x80 != 0) = ((a.msb == m.msb) && (res.msb != a.msb)) := by
  rw [and_0x80_bne_zero, BitVec.msb_and, BitVec.msb_xor, BitVec.msb_xor]
  cases a.msb <;> cases m.msb <;> cases res.msb <;> rfl

/-- `AddCore` on the registers (42_arithmetic_compare.md R500). -/
theorem Cpu.addCore_eq (r : Cpu) (m : Byte) :
    let sum := r.a.toNat + m.toNat + (if r.c then 1 else 0)
    let res : Byte := BitVec.ofNat 8 sum
    r.addCore m = { r with
      a := res, c := decide (255 < sum), v := (r.a.msb == m.msb) && (res.msb != r.a.msb), n := res.msb, z := res == 0 } := by
  have hcarry : (if r.c then 1 else 0) = r.c.toNat := by cases r.c <;> rfl
  rw [hcarry]
  dsimp only
  rw [← overflow_eq]
  rfl

/-- The difference of two bytes is zero iff they are equal. -/
theorem sub_beq_zero (reg m : Byte) : (reg - m == 0) = decide (reg = m) :=
  decide_eq_decide.mpr ((BitVec.sub_eq_iff_eq_add (z := 0#8)).trans (by rw [BitVec.zero_add]))

/-- `CompareCore` on the registers (42_arithmetic_compare.md R501). -/
theorem Cpu.compareCore_eq (r : Cpu) (reg m : Byte) :
    r.compareCore reg m = { r with c := decide (m.toNat ≤ reg.toNat), n := (reg - m).msb, z := decide (reg = m) } := by
  rw [← sub_beq_zero]
  rfl

/-- Settles O7: the model's overflow test is the one by sign bits (`overflow_eq`), its zero test of the difference is equality
(`sub_beq_zero`). -/
theorem aluCores : Obligations.AluCores := by
  unfold Obligations.AluCores
  exact fun r reg m => ⟨r.addCore_eq m, r.compareCore_eq reg m⟩

/-- Settles O12: both load their operand (`exec_read`) and add it or its complement (`Cpu.addCore_eq`). -/
theorem addSubtractResults : Obligations.AddSubtractResults := by
  unfold Obligations.AddSubtractResults
  intro i s
  refine ⟨fun hi => ?_, fun hi => ?_⟩
  · rw [exec_read (f := Cpu.addCore) hi (fun _ => rfl), Cpu.addCore_eq]
  · rw [exec_read (f := Cpu.sbc) hi (fun _ => rfl), Cpu.sbc, Cpu.addCore_eq]

/-- Settles O13: the three load their operand (`exec_read`) and compare A, X or Y with it (`Cpu.compareCore_eq`). -/
theorem compareResults : Obligations.CompareResults := by
  unfold Obligations.CompareResults
  intro i s
  refine ⟨fun hi => ?_, fun hi => ?_, fun hi => ?_⟩
  · rw [exec_read (f := Cpu.cmp) hi (fun _ => rfl), Cpu.cmp, Cpu.compareCore_eq]
  · rw [exec_read (f := Cpu.cpx) hi (fun _ => rfl), Cpu.cpx, Cpu.compareCore_eq]
  · rw [exec_read (f := Cpu.cpy) hi (fun _ => rfl), Cpu.cpy, Cpu.compareCore_eq]

/-! ## The read-modify-writes of memory -/

variable {i : Instr} {q : Mnemonic} {m : MemMode}

/-- A mnemonic that modifies its memory operand answers the state after one read, the old byte written back and the byte of `f`
written on the next cycle, with the registers `g` gives (40_addressing.md R402; 20_memory.md R216). -/
theorem exec_modifyAt {f : Cpu → Byte → Byte × Cpu} {g : Cpu → Byte → Cpu} (hi : i.mnemonic = q) (ho : i.operand = .mem m)
    (hq : ∀ o, shapeOf o q = .modifyAt f g o) (s : State) :
    let r := s.resolve m
    let b := r.st.busRead r.ea
    let new := f s.cpu b.1
    exec i s = .next { (b.2.busWrite r.ea b.1 false).busWrite r.ea new.1 true with
      cpu := g new.2 new.1
      stepCycles := s.stepCycles + i.baseCycles } := by
  rw [exec_eq, hi, hq, ho, Shape.modifyAt, Shape.run, State.modifyOp_eq]

/-- The same when `f` gives the byte `new`, the carry `c`, and N and Z from the byte, and nothing more happens. -/
theorem exec_modifyNZ {f : Cpu → Byte → Byte × Cpu} (new : Cpu → Byte → Byte) (c : Cpu → Byte → Bool)
    (hf : ∀ r v, f r v = (new r v, Cpu.setNZ { r with c := c r v } (new r v))) (hi : i.mnemonic = q)
    (ho : i.operand = .mem m) (hq : ∀ o, shapeOf o q = .modifyAt f Cpu.keep o) (s : State) :
    let r := s.resolve m
    let b := r.st.busRead r.ea
    let v := new s.cpu b.1
    exec i s = .next { (b.2.busWrite r.ea b.1 false).busWrite r.ea v true with
      cpu := { s.cpu with c := c s.cpu b.1, n := v.getLsbD 7, z := v == 0 }
      stepCycles := s.stepCycles + i.baseCycles } := by
  rw [exec_modifyAt hi ho hq]
  dsimp only [Cpu.keep]
  rw [hf, Cpu.setNZ_eq]

/-- A flag as bit `k` is the flag as bit 0, shifted there. -/
theorem flagBit_eq_shiftLeft (b : Bool) (k : Nat) : flagBit b k = (if b then (1 : Byte) else 0) <<< k := by
  cases b
  · exact (BitVec.zero_shiftLeft k).symm
  · rfl

end Sys2Proof.Machine

namespace Sys2Proof.Machine

/-- Settles O15: each gives a byte, a carry, and N and Z from the byte (`exec_modifyNZ`); the rotates shift in the carry
(`flagBit_eq_shiftLeft`). -/
theorem modifyResults : Obligations.ModifyResults := by
  unfold Obligations.ModifyResults
  intro i s m ho
  dsimp only
  rw [← flagBit_eq_shiftLeft]
  exact
    ⟨fun hi => exec_modifyNZ (fun _ v => v + 1) (fun r _ => r.c) (fun _ _ => rfl) hi ho (fun _ => rfl) s,
      fun hi => exec_modifyNZ (fun _ v => v - 1) (fun r _ => r.c) (fun _ _ => rfl) hi ho (fun _ => rfl) s,
      fun hi => exec_modifyNZ (fun _ v => v <<< 1) (fun _ v => v.getLsbD 7) (fun _ _ => rfl) hi ho (fun _ => rfl) s,
      fun hi => exec_modifyNZ (fun _ v => v >>> 1) (fun _ v => v.getLsbD 0) (fun _ _ => rfl) hi ho (fun _ => rfl) s,
      fun hi => exec_modifyNZ (fun r v => (v <<< 1) ||| (if r.c then 1 else 0)) (fun _ v => v.getLsbD 7) (fun _ _ => rfl) hi ho
        (fun _ => rfl) s,
      fun hi => exec_modifyNZ (fun r v => (v >>> 1) ||| flagBit r.c 7) (fun _ v => v.getLsbD 0) (fun _ _ => rfl) hi ho
        (fun _ => rfl) s⟩

end Sys2Proof.Machine
end


section
/-! PROOFS. Logic and shifts (43_logic_shift.md): the four shift functions in numbers (R550), the next state of AND, ORA, EOR
and BIT (R551–R554), and of the shifts and rotates of the accumulator (R555–R558). -/

namespace Sys2Proof.Machine

/-! ## The shift functions -/

/-- OR adds two bytes that share no bit: one a multiple of a power of two, the other below it. -/
theorem toNat_or_of_dvd_of_lt {x y : Byte} {k : Nat} (hx : 2 ^ k ∣ x.toNat) (hy : y.toNat < 2 ^ k) :
    (x ||| y).toNat = x.toNat + y.toNat := by
  obtain ⟨q, hq⟩ := hx
  rw [BitVec.toNat_or, hq, Nat.two_pow_add_eq_or_of_lt hy]

theorem toNat_shiftLeft_one (v : Byte) : (v <<< 1).toNat = 2 * v.toNat % 256 := by
  rw [BitVec.toNat_shiftLeft, Nat.shiftLeft_eq, Nat.mul_comm]

theorem toNat_ushiftRight_one (v : Byte) : (v >>> 1).toNat = v.toNat / 2 := by
  rw [BitVec.toNat_ushiftRight, Nat.shiftRight_eq_div_pow]

/-- ROL's byte: bit 0 of the shifted byte is free for the carry. -/
theorem toNat_shiftLeft_or_flagBit (v : Byte) (c : Bool) :
    ((v <<< 1) ||| flagBit c 0).toNat = 2 * v.toNat % 256 + (if c then 1 else 0) := by
  have hcarry : (flagBit c 0).toNat = if c then 1 else 0 := by cases c <;> rfl
  have heven : 2 ^ 1 ∣ (v <<< 1).toNat := by rw [toNat_shiftLeft_one]; omega
  rw [toNat_or_of_dvd_of_lt heven (by rw [hcarry]; split <;> decide), toNat_shiftLeft_one, hcarry]

/-- ROR's byte: bit 7 of the shifted byte is free for the carry. -/
theorem toNat_ushiftRight_or_flagBit (v : Byte) (c : Bool) :
    ((v >>> 1) ||| flagBit c 7).toNat = v.toNat / 2 + (if c then 128 else 0) := by
  have hcarry : (flagBit c 7).toNat = if c then 128 else 0 := by cases c <;> rfl
  have hlow : (v >>> 1).toNat < 2 ^ 7 := BitVec.toNat_ushiftRight_lt v 1 (by decide)
  rw [BitVec.or_comm, toNat_or_of_dvd_of_lt (by rw [hcarry]; split <;> decide) hlow, toNat_ushiftRight_one, hcarry,
    Nat.add_comm]

/-- `SetNZ` in numbers: N iff the byte is at least 128, Z iff it is 0 (00_scope.md R15). -/
theorem Cpu.setNZ_of_toNat (r : Cpu) {v : Byte} {n : Nat} (h : v.toNat = n) :
    r.setNZ v = { r with n := decide (128 ≤ n), z := decide (n = 0) } := by
  subst h
  have hzero : (v == 0) = decide (v.toNat = 0) := decide_eq_decide.mpr BitVec.toNat_inj.symm
  rw [Cpu.setNZ, BitVec.msb_eq_decide, hzero]

/-- Settles O8: each function gives its byte and N and Z from it (`Cpu.setNZ_of_toNat`), so its byte as a number is all there is
to show. -/
theorem shiftFunctions : Obligations.ShiftFunctions := by
  unfold Obligations.ShiftFunctions
  rintro r v f res out (⟨rfl, rfl, rfl⟩ | ⟨rfl, rfl, rfl⟩ | ⟨rfl, rfl, rfl⟩ | ⟨rfl, rfl, rfl⟩)
  · exact ⟨toNat_shiftLeft_one v, Cpu.setNZ_of_toNat _ (toNat_shiftLeft_one v)⟩
  · exact ⟨toNat_ushiftRight_one v, Cpu.setNZ_of_toNat _ (toNat_ushiftRight_one v)⟩
  · exact ⟨toNat_shiftLeft_or_flagBit v r.c, Cpu.setNZ_of_toNat _ (toNat_shiftLeft_or_flagBit v r.c)⟩
  · exact ⟨toNat_ushiftRight_or_flagBit v r.c, Cpu.setNZ_of_toNat _ (toNat_ushiftRight_or_flagBit v r.c)⟩

/-! ## The instructions -/

/-- A mnemonic that reads its operand, combines it with A by `op` and puts the byte into A sets N and Z from that byte. -/
theorem exec_readIntoA {i : Instr} {q : Mnemonic} (op : Byte → Byte → Byte) (hi : i.mnemonic = q)
    (hq : ∀ o, shapeOf o q = .read (fun r m => Cpu.setNZ { r with a := op r.a m } (op r.a m)) o) (s : State) :
    let l := s.load i.operand
    let v := op s.cpu.a l.val
    exec i s = .next { l.st with
      cpu := { s.cpu with a := v, n := v.getLsbD 7, z := v == 0 }
      stepCycles := s.stepCycles + i.baseCycles + (if l.crossed then 1 else 0) } := by
  dsimp only
  rw [exec_read hi hq, Cpu.setNZ_eq]

/-- Settles O14: AND, ORA and EOR put the combined byte into A (`exec_readIntoA`); BIT reads (`exec_read`) and says its flags
itself. -/
theorem logicResults : Obligations.LogicResults := by
  unfold Obligations.LogicResults
  exact fun i s =>
    ⟨fun hi => exec_readIntoA (· &&& ·) hi (fun _ => rfl) s, fun hi => exec_readIntoA (· ||| ·) hi (fun _ => rfl) s,
      fun hi => exec_readIntoA (· ^^^ ·) hi (fun _ => rfl) s, fun hi => exec_read (f := Cpu.bit) hi (fun _ => rfl) s⟩

/-- Settles O16: each is a transfer into A that writes C too (`exec_transfer`); the rotates shift in the carry
(`flagBit_eq_shiftLeft`). -/
theorem accumulatorShiftResults : Obligations.AccumulatorShiftResults := by
  unfold Obligations.AccumulatorShiftResults
  intro s
  dsimp only
  rw [← flagBit_eq_shiftLeft]
  exact
    ⟨exec_transfer (i := .aslAcc) (fun r => { r with a := r.a <<< 1, c := r.a.getLsbD 7 }) (·.a <<< 1) rfl s,
      exec_transfer (i := .lsrAcc) (fun r => { r with a := r.a >>> 1, c := r.a.getLsbD 0 }) (·.a >>> 1) rfl s,
      exec_transfer (i := .rolAcc) (fun r => { r with a := (r.a <<< 1) ||| flagBit r.c 0, c := r.a.getLsbD 7 })
        (fun r => (r.a <<< 1) ||| flagBit r.c 0) rfl s,
      exec_transfer (i := .rorAcc) (fun r => { r with a := (r.a >>> 1) ||| flagBit r.c 7, c := r.a.getLsbD 0 })
        (fun r => (r.a >>> 1) ||| flagBit r.c 7) rfl s⟩

end Sys2Proof.Machine
end

section
/-! PROOFS. Control transfer (44_control_transfer.md; 45_stack_flags_system.md R663): words pushed and pulled in terms of RAM,
then the next state of the jumps, the returns and the branches. -/

namespace Sys2Proof.Machine

/-! ## Words on the stack -/

/-- A word pushed (R602): its high byte where SP points, its low byte below, SP less by 2. -/
theorem State.pushWord_eq (s : State) (r : Word) :
    s.pushWord r = { s with
      ram := (s.ram.write (0x100 + s.cpu.sp.toNat) (hi r)).write (0x100 + (s.cpu.sp - 1).toNat) (lo r)
      cpu := { s.cpu with sp := s.cpu.sp - 2 } } := by
  have hsp : s.cpu.sp - 1 - 1 = s.cpu.sp - 2 := BitVec.sub_sub ..
  simp only [State.pushWord, State.push_eq, ramIndex_stackAddress, hsp]

/-- A word pulled (R603): its low byte above where SP points, its high byte above that, SP more by 2. -/
theorem State.pullWord_eq (s : State) :
    let pulled := fun k : Byte => s.ram.read (0x100 + (s.cpu.sp + k).toNat)
    s.pullWord = (word (pulled 2) (pulled 1), { s with cpu := { s.cpu with sp := s.cpu.sp + 2 } }) := by
  have hsp : s.cpu.sp + 1 + 1 = s.cpu.sp + 2 := BitVec.add_assoc ..
  simp only [State.pullWord, State.pull_eq, ramIndex_stackAddress, hsp]

/-! ## Jumps and returns -/

/-- Settles O17: JMP (w) reads a pair of bytes, which keeps the registers (`State.readPair_keeps`); JSR pushes a word
(`State.pushWord_eq`). -/
theorem jumpResults : Obligations.JumpResults := by
  unfold Obligations.JumpResults
  intro w s
  have hread := s.readPair_keeps w ((w &&& 0xFF00) ||| ((w + 1) &&& 0x00FF))
  refine ⟨rfl, ?_, ?_⟩
  · rw [exec_eq, ← hread.cpu, ← hread.stepCycles]
    rfl
  · dsimp only
    rw [exec_eq, ← hi_eq]
    exact congrArg (fun t : State => (.next ((t.setPc w).addCycles 6) : Result)) (s.pushWord_eq _)

/-- Settles O18: RTS pulls a word (`State.pullWord_eq`); RTI is the return from an interrupt (`State.leave_eq`), whose
flags are the bits of the first byte by the definition of `Cpu.loadStatus`. -/
theorem returnResults : Obligations.ReturnResults := by
  unfold Obligations.ReturnResults
  intro s
  constructor
  · rw [exec_eq]
    exact congrArg (fun r : Word × State => (.next ((r.2.setPc (r.1 + 1)).addCycles 6) : Result)) s.pullWord_eq
  · rw [exec_eq]
    exact congrArg (fun t : State => (.next (t.addCycles 6) : Result)) s.leave_eq

/-! ## Branches -/

/-- An instruction of the branch shape with two base cycles: taken, it goes to PC plus the signed offset in one more cycle, or
two into another page; not taken, it counts its cycles and changes nothing (R600; 40_addressing.md R415). -/
theorem exec_branch {i : Instr} {cond : Cpu → Bool} {b : Byte} (hshape : shapeOf i.operand i.mnemonic = .branch cond b)
    (hbase : i.baseCycles = 2) (s : State) :
    let pc : Word := s.cpu.pc + b.signExtend 16
    exec i s = .next (if cond s.cpu then { s with
      cpu := { s.cpu with pc := pc }
      stepCycles := s.stepCycles + (if pc.extractLsb' 8 8 = s.cpu.pc.extractLsb' 8 8 then 3 else 4) }
      else { s with stepCycles := s.stepCycles + 2 }) := by
  have hcycles (p : Prop) [Decidable p] : 2 + (if ¬p then 2 else 1) = if p then 3 else 4 := by
    by_cases hp : p <;> simp [hp]
  dsimp only
  rw [exec_eq, hshape, hbase, ← hi_eq, ← hi_eq, ← hcycles]
  rfl

/-- Settles O19: each has the shape of a branch on its flag (`exec_branch`). -/
theorem branchResults : Obligations.BranchResults := by
  unfold Obligations.BranchResults
  intro b s
  simp only [beq_false, beq_true]
  exact
    ⟨exec_branch (i := .bcc b) rfl rfl s, exec_branch (i := .bcs b) rfl rfl s, exec_branch (i := .bne b) rfl rfl s,
      exec_branch (i := .beq b) rfl rfl s, exec_branch (i := .bpl b) rfl rfl s, exec_branch (i := .bmi b) rfl rfl s,
      exec_branch (i := .bvc b) rfl rfl s, exec_branch (i := .bvs b) rfl rfl s⟩

end Sys2Proof.Machine
end

section
/-! PROOFS. Stack, flags and BRK (45_stack_flags_system.md; 46_unofficial.md R713): the pushed status byte written out, then the
next state of the pushes and pulls, of BRK, and of the instructions that set one flag or nothing. -/

namespace Sys2Proof.Machine

/-! ## The stack -/

/-- The status byte PHP and BRK push: the flags with bits 5 and 4 set (10_state.md R113). -/
theorem Cpu.pushedStatus_true (r : Cpu) : r.pushedStatus true =
    flagBit r.n 7 ||| flagBit r.v 6 ||| 0x30 ||| flagBit r.d 3 ||| flagBit r.i 2 ||| flagBit r.z 1 ||| flagBit r.c 0 := by
  unfold Cpu.pushedStatus Cpu.status
  generalize r.n = n, r.v = v, r.d = d, r.i = i, r.z = z, r.c = c
  revert n v d i z c
  decide

/-- An instruction of the push shape stores its byte where SP points and takes 1 from SP. -/
theorem exec_push {i : Instr} {f : Cpu → Byte} (hshape : shapeOf i.operand i.mnemonic = .push f) (s : State) :
    exec i s = .next { s with
      ram := s.ram.write (0x100 + s.cpu.sp.toNat) (f s.cpu)
      cpu := { s.cpu with sp := s.cpu.sp - 1 }
      stepCycles := s.stepCycles + i.baseCycles } := by
  rw [exec_eq, hshape, Shape.run, State.push_eq, ramIndex_stackAddress]
  rfl

/-- PLA takes the byte above where SP points, with N and Z from it (45_stack_flags_system.md R652). -/
theorem State.pullA_eq (s : State) :
    let p := s.ram.read (0x100 + (s.cpu.sp + 1).toNat)
    s.pullA = { s with cpu := { s.cpu with a := p, sp := s.cpu.sp + 1, n := p.getLsbD 7, z := p == 0 } } := by
  dsimp only
  rw [State.pullA, State.pull_eq, ramIndex_stackAddress, Cpu.setNZ_eq]
  rfl

/-- PLP takes the six flags from the byte above where SP points (45_stack_flags_system.md R653). -/
theorem State.pullStatus_eq (s : State) :
    s.pullStatus = { s with
      cpu := { s.cpu.loadStatus (s.ram.read (0x100 + (s.cpu.sp + 1).toNat)) with sp := s.cpu.sp + 1 } } := by
  rw [State.pullStatus, State.pull_eq, ramIndex_stackAddress]
  rfl

/-- Settles O20: PHA and PHP have the push shape (`exec_push`), PHP with the status byte of `Cpu.pushedStatus_true`; PLA and PLP
are their pulls (`State.pullA_eq`, `State.pullStatus_eq`) with the cycles counted. -/
theorem stackResults : Obligations.StackResults := by
  unfold Obligations.StackResults
  intro s
  dsimp only
  rw [← Cpu.pushedStatus_true]
  refine ⟨exec_push (i := .pha) rfl s, exec_push (i := .php) rfl s, ?_, ?_⟩
  · rw [exec_eq]
    exact congrArg (fun t : State => (.next (t.addCycles 4) : Result)) s.pullA_eq
  · rw [exec_eq]
    exact congrArg (fun t : State => (.next (t.addCycles 4) : Result)) s.pullStatus_eq

/-! ## BRK -/

/-- Settles O23: BRK is an entry (`State.enter_eq`) with the status byte of `Cpu.pushedStatus_true`, whose two reads of the vector
count no cycles (`State.busRead_stepCycles`). -/
theorem brkResult : Obligations.BrkResult := by
  unfold Obligations.BrkResult
  intro s
  dsimp only
  rw [exec_eq, ← Cpu.pushedStatus_true, ← hi_eq]
  refine (congrArg (fun t : State => (.next (t.addCycles 7) : Result)) (s.enter_eq _ _ _)).trans ?_
  simp only [State.addCycles, State.read16, State.readPair, State.busRead_stepCycles]
  rfl

/-! ## Flags and no operation -/

/-- An SKB has an immediate operand, and so two base cycles (46_unofficial.md R713). -/
theorem Instr.baseCycles_of_skb {i : Instr} (hi : i.mnemonic = .skb) : i.baseCycles = 2 := by
  have hmode : i.operand.mode ∈ Mnemonic.skb.modes := hi ▸ i.mode_mem_modes
  have hrow := i.mem_cycleRow
  rw [hi, List.mem_singleton.mp hmode] at hrow
  simpa [Mnemonic.cycleRow] using hrow

/-- Settles O21: each is of the implied shape (`exec_implied`) with two base cycles, the SKB opcodes by
`Instr.baseCycles_of_skb`. -/
theorem flagResults : Obligations.FlagResults := by
  unfold Obligations.FlagResults
  intro s
  refine
    ⟨exec_implied (i := .clc) rfl s, exec_implied (i := .cld) rfl s, exec_implied (i := .cli) rfl s,
      exec_implied (i := .clv) rfl s, exec_implied (i := .sec) rfl s, exec_implied (i := .sed) rfl s,
      exec_implied (i := .sei) rfl s, exec_implied (i := .nop) rfl s, fun i hi => ?_⟩
  have hshape : shapeOf i.operand i.mnemonic = .implied id := by rw [hi]; rfl
  rw [exec_implied hshape, Instr.baseCycles_of_skb hi]
  rfl

end Sys2Proof.Machine
end

section
/-! PROOFS. Unofficial instructions (46_unofficial.md): IGN (R714), the immediates on A and X (R701–R704), and the combined
read-modify-writes (R707–R712), each through the next state of its shape. -/

namespace Sys2Proof.Machine

variable {i : Instr} {q : Mnemonic}

/-! ## IGN -/

/-- Settles O22: IGN has no mode without an effective address, and reads (`exec_read`) keeping the registers, as the read does
(`State.load_cpu`). -/
theorem ignResults : Obligations.IgnResults := by
  unfold Obligations.IgnResults
  intro i s hi
  obtain ⟨m, hm⟩ := Operand.eq_mem i.mode_mem_modes (hi ▸ by decide)
  refine ⟨m, hm, ?_⟩
  rw [exec_read (f := Cpu.keep) hi (fun _ => rfl), hm, Cpu.keep, ← s.load_cpu (.mem m)]
  rfl

/-! ## The immediates -/

/-- An instruction that reads an immediate byte and gives the registers `r`, with N and Z from `v`, makes no bus access. -/
theorem exec_readImm {f : Cpu → Byte → Cpu} {b : Byte} (r : Cpu) (v : Byte) {s : State}
    (hshape : shapeOf i.operand i.mnemonic = .read f (.imm b)) (hf : f s.cpu b = r.setNZ v) :
    exec i s = .next { s with
      cpu := { r with n := v.getLsbD 7, z := v == 0 }
      stepCycles := s.stepCycles + i.baseCycles } := by
  rw [exec_eq, hshape, ← Cpu.setNZ_eq, ← hf]
  rfl

/-- Settles O24: each reads its byte, has two base cycles, and sets N and Z from its result (`exec_readImm`). -/
theorem unofficialImmediateResults : Obligations.UnofficialImmediateResults := by
  unfold Obligations.UnofficialImmediateResults
  intro b s t x carry answer
  exact
    ⟨exec_readImm (i := .alrImm b) _ _ rfl rfl, exec_readImm (i := .ancImm0B b) _ _ rfl rfl,
      exec_readImm (i := .ancImm2B b) _ _ rfl rfl, exec_readImm (i := .arrImm b) _ _ rfl rfl,
      exec_readImm (i := .axsImm b) _ _ rfl rfl⟩

/-! ## The combined read-modify-writes -/

/-- A mnemonic that modifies its operand and has memory modes only has a memory operand (`exec_modifyAt`). -/
theorem exec_modifyMem {f : Cpu → Byte → Byte × Cpu} {g : Cpu → Byte → Cpu} (hi : i.mnemonic = q)
    (hq : ∀ o, shapeOf o q = .modifyAt f g o) (hmodes : ∀ p ∈ q.modes, p ∉ [Mode.imp, .acc, .imm, .ind, .rel]) (s : State) :
    ∃ m, i.operand = .mem m ∧
      let r := s.resolve m
      let b := r.st.busRead r.ea
      let new := f s.cpu b.1
      exec i s = .next { (b.2.busWrite r.ea b.1 false).busWrite r.ea new.1 true with
        cpu := g new.2 new.1
        stepCycles := s.stepCycles + i.baseCycles } := by
  obtain ⟨m, hm⟩ := Operand.eq_mem i.mode_mem_modes (hi ▸ hmodes)
  exact ⟨m, hm, exec_modifyAt hi hm hq s⟩

/-- The same when the byte `new` with carry `c` is combined into A by `op`: N and Z are those of the byte put into A. -/
theorem exec_modifyIntoA (op : Byte → Byte → Byte) (new : Cpu → Byte → Byte) (c : Byte → Bool) (hi : i.mnemonic = q)
    (hq : ∀ o, shapeOf o q = .modifyAt (fun r v => (new r v, Cpu.setNZ { r with c := c v } (new r v)))
      (fun r v => Cpu.setNZ { r with a := op r.a v } (op r.a v)) o)
    (hmodes : ∀ p ∈ q.modes, p ∉ [Mode.imp, .acc, .imm, .ind, .rel]) (s : State) :
    ∃ m, i.operand = .mem m ∧
      let r := s.resolve m
      let b := r.st.busRead r.ea
      let v := op s.cpu.a (new s.cpu b.1)
      exec i s = .next { (b.2.busWrite r.ea b.1 false).busWrite r.ea (new s.cpu b.1) true with
        cpu := { s.cpu with a := v, c := c b.1, n := v.getLsbD 7, z := v == 0 }
        stepCycles := s.stepCycles + i.baseCycles } := by
  obtain ⟨m, hm, h⟩ := exec_modifyMem hi hq hmodes s
  refine ⟨m, hm, ?_⟩
  dsimp only
  rw [h, Cpu.setNZ_eq]
  rfl

/-- The adder does not read N and Z. -/
theorem Cpu.addCore_setNZ (r : Cpu) (v m : Byte) : (r.setNZ v).addCore m = r.addCore m := rfl

/-- Settles O25: DCP, ISC and RRA modify their memory byte and compare or add it (`exec_modifyMem`), where RRA's adder ignores
the N and Z of the rotate (`Cpu.addCore_setNZ`); RLA, SLO and SRE combine it into A (`exec_modifyIntoA`). The rotates shift in
the carry (`flagBit_eq_shiftLeft`). -/
theorem unofficialModifyResults : Obligations.UnofficialModifyResults := by
  unfold Obligations.UnofficialModifyResults
  intro i s
  dsimp only
  rw [← flagBit_eq_shiftLeft]
  refine
    ⟨fun hi => exec_modifyMem hi (fun _ => rfl) (by decide) s, fun hi => exec_modifyMem hi (fun _ => rfl) (by decide) s,
      fun hi => exec_modifyIntoA (· &&& ·) (fun r v => (v <<< 1) ||| (if r.c then 1 else 0)) (·.getLsbD 7) hi (fun _ => rfl)
        (by decide) s,
      fun hi => ?_,
      fun hi => exec_modifyIntoA (· ||| ·) (fun _ v => v <<< 1) (·.getLsbD 7) hi (fun _ => rfl) (by decide) s,
      fun hi => exec_modifyIntoA (· ^^^ ·) (fun _ v => v >>> 1) (·.getLsbD 0) hi (fun _ => rfl) (by decide) s⟩
  obtain ⟨m, hm, h⟩ := exec_modifyMem (f := Cpu.rotR) (g := Cpu.addCore) hi (fun _ => rfl) (by decide) s
  exact ⟨m, hm, by rw [h, Cpu.rotR, Cpu.addCore_setNZ]⟩

end Sys2Proof.Machine
end

section
/-! PROOFS. Exceptions and the ways a step can run (60_exceptions.md; 20_memory.md R250): the gate's entries in terms of RAM and
the vector reads, the return that undoes an entry, what the device clocks leave of the CPU's side, and the frozen, the halted
and the running step. -/

namespace Sys2Proof.Machine

/-! ## The three ways a step can run -/

/-- With a cartridge, a step is the system step. -/
theorem step_eq_systemStep {s : State} (hcart : s.cart.isSome = true) : step s = s.systemStep := by
  obtain ⟨c, hc⟩ := Option.isSome_iff_exists.mp hcart
  simp only [step, hc]

/-- Running an instruction answers a next state: the crash of an opcode outside the table, or what `exec` answers (`exec_eq`)
with the devices advanced. -/
theorem State.runInstruction_next (s : State) : ∃ t, s.runInstruction = .next t := by
  cases hi : s.fetch.instr with
  | none => exact ⟨s.fetch.st.crash, by simp only [State.runInstruction, hi]⟩
  | some i => exact ⟨_, by simp only [State.runInstruction, hi, exec_eq, finish]; rfl⟩

/-- A system step answers a next state in each of its three branches. -/
theorem State.systemStep_next (s : State) : ∃ t, s.systemStep = .next t := by
  unfold State.systemStep
  split
  · exact ⟨s, rfl⟩
  split
  · exact ⟨s.haltStep, rfl⟩
  · exact s.openGate.runInstruction_next

/-- Settles O26: every instruction answers the next state of its shape (`exec_eq`), and so does every step of a block with a
cartridge (`State.systemStep_next`). -/
theorem nothingStops : Obligations.NothingStops := by
  unfold Obligations.NothingStops
  refine ⟨fun i s => ⟨_, exec_eq i s⟩, fun s => ⟨fun hnone => ?_, fun hcart => ?_⟩⟩
  · simp only [step, hnone]
  · rw [step_eq_systemStep hcart]
    exact s.systemStep_next

/-- Settles O38: the system step of a frozen state is that state. -/
theorem frozenStep : Obligations.FrozenStep := by
  unfold Obligations.FrozenStep
  intro s hcart hcrashed hreset
  have hfrozen : s.frozen = true := by simp [State.frozen, hcrashed, hreset]
  rw [step_eq_systemStep hcart, State.systemStep, if_pos hfrozen]

/-! ## Interrupt entry and return -/

/-- The status byte NMI and IRQ push is the image itself: bit 5 is set in it and B is 0 (10_state.md R112, R113). -/
theorem Cpu.pushedStatus_false (r : Cpu) : r.pushedStatus false = r.status := by
  unfold Cpu.pushedStatus Cpu.status
  generalize r.n = n, r.v = v, r.d = d, r.i = i, r.z = z, r.c = c
  revert n v d i z c
  decide

theorem lo_eq (w : Word) : lo w = w.extractLsb' 0 8 := BitVec.setWidth_eq_extractLsb' (by decide)

/-- Settles O36: both are entries with B = 0 (`State.enter_eq`), NMI with its pending bit cleared first. -/
theorem interruptEntry : Obligations.InterruptEntry := by
  unfold Obligations.InterruptEntry
  intro s
  dsimp only
  rw [← hi_eq, ← lo_eq]
  constructor
  · refine (State.enter_eq { s with nmiPending := false } 0xFFFA s.cpu.pc false).trans ?_
    rw [Cpu.pushedStatus_false]
    rfl
  · refine (s.enter_eq 0xFFFE s.cpu.pc false).trans ?_
    rw [Cpu.pushedStatus_false]
    rfl

/-- The RAM an entry leaves: the return address and the status byte in the three stack bytes at and below SP. -/
theorem State.enter_ram (s : State) (vector ret : Word) (b : Bool) :
    (s.enter vector ret b).ram =
      ((s.ram.write (0x100 + s.cpu.sp.toNat) (hi ret)).write (0x100 + (s.cpu.sp - 1).toNat) (lo ret)).write
        (0x100 + (s.cpu.sp - 2).toNat) (s.cpu.pushedStatus b) := by
  rw [State.enter_eq]
  exact (State.readPair_keeps _ vector (vector + 1)).ram

theorem State.enter_sp (s : State) (vector ret : Word) (b : Bool) : (s.enter vector ret b).cpu.sp = s.cpu.sp - 3 := by
  rw [State.enter_eq]

/-- Above SP an entry leaves the three bytes it pushed: reads after writes at three different indexes. -/
theorem State.enter_stack (s : State) (vector ret : Word) (b : Bool) (hwf : s.ram.wf = true) :
    (s.enter vector ret b).ram.read (0x100 + (s.cpu.sp - 2).toNat) = s.cpu.pushedStatus b ∧
    (s.enter vector ret b).ram.read (0x100 + (s.cpu.sp - 1).toNat) = lo ret ∧
    (s.enter vector ret b).ram.read (0x100 + s.cpu.sp.toNat) = hi ret := by
  rw [State.enter_ram]
  generalize s.cpu.sp = sp
  have h12 : 0x100 + (sp - 1).toNat ≠ 0x100 + (sp - 2).toNat := by bv_omega
  have h01 : 0x100 + sp.toNat ≠ 0x100 + (sp - 1).toNat := by bv_omega
  have h02 : 0x100 + sp.toNat ≠ 0x100 + (sp - 2).toNat := by bv_omega
  have hwf1 := Store.wf_write s.ram (0x100 + sp.toNat) (hi ret) hwf
  refine ⟨Store.read_write_self _ _ _ (Store.wf_write _ _ _ hwf1), ?_, ?_⟩
  · rw [Store.read_write_ne _ _ _ _ h12, Store.read_write_self _ _ _ hwf1]
  · rw [Store.read_write_ne _ _ _ _ h02, Store.read_write_ne _ _ _ _ h01, Store.read_write_self _ _ _ hwf]

/-- The bytes of a word make it up. -/
theorem word_hi_lo (w : Word) : word (hi w) (lo w) = w := by
  rw [hi_eq, lo_eq, word, BitVec.extractLsb'_append_extractLsb'_eq_extractLsb' (by decide)]
  exact BitVec.extractLsb'_eq_self

/-- Settles O37: the return (`State.leave_eq`) pulls the bytes the entry pushed (`State.enter_stack`), of which the status byte
gives the flags back (`Cpu.loadStatus_pushedStatus`). -/
theorem returnUndoesEntry : Obligations.ReturnUndoesEntry := by
  unfold Obligations.ReturnUndoesEntry
  intro s u vector ret b hwf hram hsp
  obtain ⟨hstatus, hlow, hhigh⟩ := s.enter_stack vector ret b hwf
  rw [State.enter_sp] at hsp
  have h1 : s.cpu.sp - 3 + 1 = s.cpu.sp - 2 := by bv_omega
  have h2 : s.cpu.sp - 3 + 2 = s.cpu.sp - 1 := by bv_omega
  have h3 : s.cpu.sp - 3 + 3 = s.cpu.sp := BitVec.sub_add_cancel s.cpu.sp 3
  rw [State.leave_eq]
  simp only [hram, hsp, h1, h2, h3, hstatus, hlow, hhigh, word_hi_lo, Cpu.loadStatus_pushedStatus]

/-! ## RESET and the gate -/

/-- RESET as its two reads and the registers it sets: the reads do not see that I is set first (`State.readPair_setCpu`). -/
theorem State.doReset_eq (s : State) :
    s.doReset =
      let r := State.read16 { s with resetRequest := false, nmiPending := false, halt := 0, crashed := none } 0xFFFC
      { r.2 with cpu := { s.cpu with i := true, pc := r.1 } } := by
  have hread := State.readPair_setCpu { s with resetRequest := false, nmiPending := false, halt := 0, crashed := none }
    { s.cpu with i := true } 0xFFFC (0xFFFC + 1)
  rw [State.doReset]
  dsimp only
  rw [State.read16, hread]
  rfl

/-- Settles O35: the reads of the vector keep the events and every byte of memory (`State.readPair_keeps`). -/
theorem resetEntry : Obligations.ResetEntry := by
  unfold Obligations.ResetEntry
  intro s
  have hkeeps := State.readPair_keeps { s with resetRequest := false, nmiPending := false, halt := 0, crashed := none }
    0xFFFC (0xFFFC + 1)
  refine ⟨s.doReset_eq, ?_⟩
  rw [State.doReset_eq]
  refine ⟨hkeeps.resetRequest, hkeeps.nmiPending, hkeeps.halt, hkeeps.crashed, fun k => ?_⟩
  calc State.byteAt _ k
    _ = State.byteAt (State.readPair _ 0xFFFC (0xFFFC + 1)).2 k := State.byteAt_congr rfl rfl rfl rfl rfl k
    _ = State.byteAt { s with resetRequest := false, nmiPending := false, halt := 0, crashed := none } k := hkeeps.byteAt k
    _ = s.byteAt k := State.byteAt_congr rfl rfl rfl rfl rfl k

/-- The mapper's line with a cartridge loaded (63_mappers.md R1123). -/
theorem State.mapperIrq_of_cart {s : State} {c : Cart} (hc : s.cart = some c) : s.mapperIrq = c.mapper.irqLine := by
  rw [State.mapperIrq, hc]

/-- Settles O34: the four branches of the gate, and the line by mapper. -/
theorem gatePriority : Obligations.GatePriority := by
  unfold Obligations.GatePriority
  intro s
  refine ⟨fun hreset => ?_, fun hreset hnmi => ?_, fun hreset hnmi hline hi => ?_, fun hreset hnmi hmasked => ?_,
    fun c hc => ?_, rfl⟩
  · rw [State.gate, if_pos hreset]; rfl
  · rw [State.gate, if_neg (by simp [hreset]), if_pos hnmi]; rfl
  · rw [State.gate, if_neg (by simp [hreset]), if_neg (by simp [hnmi]), if_pos (by simp [hline, hi])]; rfl
  · have hquiet : ¬(s.irqLine && !s.cpu.i) = true := by
      obtain h | h := hmasked <;> simp [h]
    rw [State.gate, if_neg (by simp [hreset]), if_neg (by simp [hnmi]), if_neg hquiet]
  · rw [State.irqLine, State.mapperIrq_of_cart hc]
    cases c.mapper <;> rfl

/-! ## The device clocks and the halt step -/

/-- The part of the state on the CPU's side of the bus, without what the devices signal to it. -/
structure CpuSide where
  cpu : Cpu
  resetRequest : Bool
  halt : Nat
  crashed : Option Word
  cpuCycles : Nat
  ram : Memory

/-- The CPU's side of a state. -/
def State.cpuSide (s : State) : CpuSide := ⟨s.cpu, s.resetRequest, s.halt, s.crashed, s.cpuCycles, s.ram⟩

theorem State.ReadKeeps.cpuSide {s t : State} (h : s.ReadKeeps t) : t.cpuSide = s.cpuSide := by
  rw [State.cpuSide, h.cpu, h.resetRequest, h.halt, h.crashed, h.cpuCycles, h.ram]
  rfl

theorem State.cpuSide_hook (s : State) (declared : Caps → Bool) (call : Mapper → Mapper) :
    (s.hook declared call).cpuSide = s.cpuSide := by
  unfold State.hook
  split
  · split <;> rfl
  · rfl

/-- Both branches of a conditional action keep the CPU's side. -/
theorem State.cpuSide_ite (p : Prop) [Decidable p] {s t u : State} (ht : t.cpuSide = s.cpuSide)
    (hu : u.cpuSide = s.cpuSide) : (if p then t else u).cpuSide = s.cpuSide := by
  split
  · exact ht
  · exact hu

theorem State.cpuSide_ppuBusRead (s : State) (a : Word) (use : PatternUse) :
    (s.ppuBusRead a use).2.cpuSide = s.cpuSide := (s.ppuBusRead_keeps a use).cpuSide

theorem State.cpuSide_patternFetch (s : State) (a : Word) : (s.patternFetch a).2.cpuSide = s.cpuSide :=
  ((State.cpuSide_hook _ _ _).trans (State.cpuSide_hook _ _ _)).trans (s.cpuSide_ppuBusRead a _)

theorem State.cpuSide_bgFetch (s : State) : s.bgFetch.cpuSide = s.cpuSide := by
  unfold State.bgFetch
  split
  · exact s.cpuSide_ppuBusRead _ _
  · exact s.cpuSide_ppuBusRead _ _
  · exact s.cpuSide_patternFetch _
  · exact s.cpuSide_patternFetch _
  · rfl
  · rfl

theorem State.cpuSide_bgDot (s : State) : s.bgDot.cpuSide = s.cpuSide := by
  have hfetch := State.cpuSide_ite ((1 ≤ s.ppu.dot ∧ s.ppu.dot ≤ 256) ∨ (321 ≤ s.ppu.dot ∧ s.ppu.dot ≤ 336))
    (State.cpuSide_bgFetch { s with ppu := s.ppu.shiftDotActions }) rfl
  exact State.cpuSide_ite _ ((State.cpuSide_ppuBusRead _ _ _).trans hfetch) hfetch

theorem State.cpuSide_spriteLow (s : State) : s.spriteLow.2.cpuSide = s.cpuSide := by
  unfold State.spriteLow
  split <;> rfl

theorem State.cpuSide_spriteFetch (s : State) : s.spriteFetch.cpuSide = s.cpuSide := by
  unfold State.spriteFetch
  dsimp only
  split
  · exact s.cpuSide_ppuBusRead _ _
  · exact s.cpuSide_ppuBusRead _ _
  · exact s.cpuSide_patternFetch _
  · exact (State.cpuSide_spriteLow _).trans (s.cpuSide_patternFetch _)
  · rfl

theorem State.cpuSide_spriteDot (s : State) : s.spriteDot.cpuSide = s.cpuSide := by
  have heval : (if s.ppu.dot = 257 then { s with ppu := s.ppu.evaluate } else s).cpuSide = s.cpuSide :=
    State.cpuSide_ite _ rfl rfl
  exact State.cpuSide_ite _ ((State.cpuSide_spriteFetch _).trans heval) heval

theorem State.cpuSide_phaseDot (s : State) : s.phaseDot.cpuSide = s.cpuSide :=
  State.cpuSide_ite _ (s.cpuSide_hook _ _) (State.cpuSide_ite _ (s.cpuSide_hook _ _) rfl)

/-- VBlank raises NMI, which is not on the CPU's side. -/
theorem State.cpuSide_vblankDot (s : State) : s.vblankDot.cpuSide = s.cpuSide :=
  State.cpuSide_ite _ rfl (State.cpuSide_ite _ rfl rfl)

theorem State.cpuSide_endLow (s : State) : s.endLow.cpuSide = s.cpuSide := State.cpuSide_ite _ rfl rfl

theorem State.cpuSide_dotActions (s : State) : s.dotActions.cpuSide = s.cpuSide := by
  have hrendered (t : State) : t.phaseDot.bgDot.spriteDot.cpuSide = t.cpuSide := by
    rw [State.cpuSide_spriteDot, State.cpuSide_bgDot, State.cpuSide_phaseDot]
  have hactions := (State.cpuSide_ite (s.vblankDot.ppu.rendered = true) (hrendered s.vblankDot) rfl).trans
    s.cpuSide_vblankDot
  have hend := (State.cpuSide_endLow _).trans hactions
  exact State.cpuSide_ite _ hend hend

theorem State.cpuSide_nextDot (s : State) : s.nextDot.cpuSide = s.cpuSide := by
  have hhook := s.cpuSide_hook Caps.scanlineHook (·.onScanline s.ppu.scanline s.ppu.rendering)
  exact State.cpuSide_ite _ (State.cpuSide_ite _ hhook hhook) rfl

theorem State.cpuSide_ppuTick (s : State) : s.ppuTick.cpuSide = s.cpuSide :=
  (State.cpuSide_nextDot _).trans s.cpuSide_dotActions

theorem State.cpuSide_dmcReader (s : State) : s.dmcReader.cpuSide = s.cpuSide :=
  State.cpuSide_ite _ (s.busRead_keeps s.apu.dmc.curAddr).cpuSide rfl

theorem State.cpuSide_apuCycle (s : State) : s.apuCycle.cpuSide = s.cpuSide :=
  State.cpuSide_dmcReader { s with apu := s.apu.frameTick.timers }

/-- The devices' advance keeps the CPU's side (`BusClosed.apuAdvance`, `BusClosed.ppuAdvance`). -/
theorem State.cpuSide_clocks (m n : Nat) (s : State) :
    (State.ppuAdvance m (State.apuAdvance n s)).cpuSide = s.cpuSide :=
  BusClosed.ppuAdvance (P := fun t => t.cpuSide = s.cpuSide) (fun t ht => t.cpuSide_ppuTick.trans ht) m _
    (BusClosed.apuAdvance (fun t ht => t.cpuSide_apuCycle.trans ht) n s rfl)

/-- Settles O39: a halted step is the halt step, whose clocks keep the CPU's side (`State.cpuSide_clocks`). -/
theorem haltStep : Obligations.HaltStep := by
  unfold Obligations.HaltStep
  intro s hcart hcrashed hreset hhalt
  have hfrozen : ¬s.frozen = true := by simp [State.frozen, hcrashed]
  have hhalted : s.halted = true := by simp [State.halted, hhalt, hreset]
  have hside := State.cpuSide_clocks (3 * s.halt) s.halt
    { s with halt := 0, stepCycles := s.halt, cpuCycles := s.cpuCycles + s.halt }
  refine ⟨s.haltStep, ?_, rfl, congrArg CpuSide.cpu hside, congrArg CpuSide.cpuCycles hside, congrArg CpuSide.halt hside,
    congrArg CpuSide.ram hside⟩
  rw [step_eq_systemStep hcart, State.systemStep, if_neg hfrozen, if_pos hhalted]

end Sys2Proof.Machine
end

section
/-! PROOFS. The PPU's scroll functions by the fields of `v` (61_ppu.md R942–R945), the PPU registers through their mirrors
(R911–R921) and OAM DMA from a page of RAM (R918; 60_exceptions.md R850). -/

namespace Sys2Proof.Machine

/-! ## The fields of the scroll registers -/

/-- The fields of `v` and `t` (61_ppu.md R901): coarse X (bits 4–0), coarse Y (bits 9–5), the horizontal (bit 10) and vertical
(bit 11) nametable bits and fine Y (bits 14–12). -/
structure Scroll where
  coarseX : BitVec 5
  coarseY : BitVec 5
  horizontal : BitVec 1
  vertical : BitVec 1
  fineY : BitVec 3
deriving DecidableEq

/-- The fields of a scroll register. -/
def scroll (v : BitVec 15) : Scroll where
  coarseX := v.extractLsb' 0 5
  coarseY := v.extractLsb' 5 5
  horizontal := v.extractLsb' 10 1
  vertical := v.extractLsb' 11 1
  fineY := v.extractLsb' 12 3

theorem toNat_coarseX (v : BitVec 15) : (scroll v).coarseX.toNat = v.toNat % 32 := by
  simp [scroll, BitVec.extractLsb'_toNat]

theorem toNat_coarseY (v : BitVec 15) : (scroll v).coarseY.toNat = v.toNat / 32 % 32 := by
  simp [scroll, BitVec.extractLsb'_toNat, Nat.shiftRight_eq_div_pow]

theorem toNat_horizontal (v : BitVec 15) : (scroll v).horizontal.toNat = v.toNat / 1024 % 2 := by
  simp [scroll, BitVec.extractLsb'_toNat, Nat.shiftRight_eq_div_pow]

theorem toNat_vertical (v : BitVec 15) : (scroll v).vertical.toNat = v.toNat / 2048 % 2 := by
  simp [scroll, BitVec.extractLsb'_toNat, Nat.shiftRight_eq_div_pow]

theorem toNat_fineY (v : BitVec 15) : (scroll v).fineY.toNat = v.toNat / 4096 := by
  simp only [scroll, BitVec.extractLsb'_toNat, Nat.shiftRight_eq_div_pow]
  omega

/-- A scroll register is known by its five fields as numbers. -/
theorem scroll_eq_iff (v : BitVec 15) (f : Scroll) : scroll v = f ↔
    v.toNat % 32 = f.coarseX.toNat ∧ v.toNat / 32 % 32 = f.coarseY.toNat ∧ v.toNat / 1024 % 2 = f.horizontal.toNat ∧
      v.toNat / 2048 % 2 = f.vertical.toNat ∧ v.toNat / 4096 = f.fineY.toNat := by
  rw [← toNat_coarseX, ← toNat_coarseY, ← toNat_horizontal, ← toNat_vertical, ← toNat_fineY]
  obtain ⟨cx, cy, nx, ny, fy⟩ := f
  simp only [Scroll.mk.injEq, BitVec.toNat_inj, scroll]

/-- A scroll register is its fields. -/
theorem scroll_inj {u v : BitVec 15} : scroll u = scroll v ↔ u = v := by
  refine ⟨fun h => BitVec.eq_of_toNat_eq ?_, congrArg scroll⟩
  rw [scroll_eq_iff, toNat_coarseX, toNat_coarseY, toNat_horizontal, toNat_vertical, toNat_fineY] at h
  omega

/-- A mask of a whole field keeps it. -/
theorem and_31 (x : BitVec 5) : x &&& 31#5 = x := BitVec.and_allOnes

theorem and_1 (x : BitVec 1) : x &&& 1#1 = x := BitVec.and_allOnes

theorem and_7 (x : BitVec 3) : x &&& 7#3 = x := BitVec.and_allOnes

/-- Flipping a nametable bit. -/
theorem xor_1 (x : BitVec 1) : x ^^^ 1#1 = ~~~x := BitVec.xor_allOnes

/-- CopyHorizontal (61_ppu.md R944). -/
theorem scroll_copyHorizontal (v t : BitVec 15) : scroll (copyHorizontal v t) =
    { scroll v with coarseX := (scroll t).coarseX, horizontal := (scroll t).horizontal } := by
  simp [scroll, copyHorizontal, BitVec.extractLsb'_or, BitVec.extractLsb'_and, and_31, and_1, and_7]

/-- CopyVertical (61_ppu.md R945). -/
theorem scroll_copyVertical (v t : BitVec 15) : scroll (copyVertical v t) =
    { scroll v with
      coarseY := (scroll t).coarseY, vertical := (scroll t).vertical, fineY := (scroll t).fineY } := by
  simp [scroll, copyVertical, BitVec.extractLsb'_or, BitVec.extractLsb'_and, and_31, and_1, and_7]

/-- The test of IncCoarseX looks at coarse X. -/
theorem and_001F_eq_iff (v : BitVec 15) : v &&& 0x001F = 31 ↔ (scroll v).coarseX = 31 := by
  rw [← scroll_inj]
  simp [scroll, BitVec.extractLsb'_and, and_31]

/-- Adding 1 below coarse X 31 leaves the other fields. -/
theorem scroll_add_one (v : BitVec 15) (h : (scroll v).coarseX ≠ 31) :
    scroll (v + 1) = { scroll v with coarseX := (scroll v).coarseX + 1 } := by
  have hx : v.toNat % 32 ≠ 31 := fun hx => h (BitVec.eq_of_toNat_eq (by rw [toNat_coarseX]; exact hx))
  have hv := v.isLt
  rw [scroll_eq_iff, BitVec.toNat_add, BitVec.toNat_add, toNat_coarseX, toNat_coarseY, toNat_horizontal, toNat_vertical,
    toNat_fineY]
  simp only [BitVec.reduceToNat, BitVec.ofNat_eq_ofNat]
  omega

/-- IncCoarseX (61_ppu.md R942). -/
theorem scroll_incCoarseX (v : BitVec 15) : scroll (incCoarseX v) =
    if (scroll v).coarseX = 31 then { scroll v with coarseX := 0, horizontal := ~~~(scroll v).horizontal }
    else { scroll v with coarseX := (scroll v).coarseX + 1 } := by
  unfold incCoarseX
  simp only [and_001F_eq_iff]
  split
  · simp [scroll, BitVec.extractLsb'_xor, BitVec.extractLsb'_and, and_31, and_1, and_7, xor_1]
  · rename_i h
    exact scroll_add_one v h

/-- The test of IncY looks at fine Y. -/
theorem and_7000_eq_iff (v : BitVec 15) : v &&& 0x7000 = 0x7000 ↔ (scroll v).fineY = 7 := by
  rw [← scroll_inj]
  simp [scroll, BitVec.extractLsb'_and, and_7]

/-- Adding 0x1000 below fine Y 7 leaves the other fields. -/
theorem scroll_add_1000 (v : BitVec 15) (h : (scroll v).fineY ≠ 7) :
    scroll (v + 0x1000) = { scroll v with fineY := (scroll v).fineY + 1 } := by
  have hy : v.toNat / 4096 ≠ 7 := fun hy => h (BitVec.eq_of_toNat_eq (by rw [toNat_fineY]; exact hy))
  have hv := v.isLt
  rw [scroll_eq_iff, BitVec.toNat_add, BitVec.toNat_add, toNat_coarseX, toNat_coarseY, toNat_horizontal, toNat_vertical,
    toNat_fineY]
  simp only [BitVec.reduceToNat, BitVec.ofNat_eq_ofNat]
  omega

/-- A coarse Y in its place. -/
theorem scroll_shifted (y : BitVec 5) : scroll (y.setWidth 15 <<< 5) = ⟨0, y, 0, 0, 0⟩ := by
  revert y; decide

theorem scroll_or (u v : BitVec 15) : scroll (u ||| v) =
    ⟨(scroll u).coarseX ||| (scroll v).coarseX, (scroll u).coarseY ||| (scroll v).coarseY,
      (scroll u).horizontal ||| (scroll v).horizontal, (scroll u).vertical ||| (scroll v).vertical,
      (scroll u).fineY ||| (scroll v).fineY⟩ := by
  simp only [scroll, BitVec.extractLsb'_or]

/-- Coarse Y as IncY takes it out of `v`. -/
theorem coarseY_shifted_out (v : BitVec 15) :
    ((v &&& ~~~(0x7000 : BitVec 15)) &&& 0x03E0) >>> 5 = (scroll v).coarseY.setWidth 15 := by
  have hmasked : (v &&& ~~~(0x7000 : BitVec 15)) &&& (0x03E0 : BitVec 15) = (scroll v).coarseY.setWidth 15 <<< 5 := by
    rw [← scroll_inj, scroll_shifted]
    simp [scroll, BitVec.extractLsb'_and, and_31]
  rw [hmasked]
  generalize (scroll v).coarseY = y
  revert y; decide

/-- What IncY keeps of `v` when fine Y wraps: all but fine Y and coarse Y. -/
theorem scroll_rest (v : BitVec 15) : scroll (v &&& ~~~(0x7000 : BitVec 15) &&& ~~~(0x03E0 : BitVec 15)) =
    { scroll v with coarseY := 0, fineY := 0 } := by
  simp [scroll, BitVec.extractLsb'_and, and_31, and_1]

theorem scroll_xor_0800 (v : BitVec 15) :
    scroll (v ^^^ 0x0800) = { scroll v with vertical := ~~~(scroll v).vertical } := by
  simp [scroll, BitVec.extractLsb'_xor, xor_1]

/-- The three ways coarse Y goes on in IncY, as tests and sums of 15-bit words. -/
theorem coarseY_word (y : BitVec 5) : (y.setWidth 15 = (29 : BitVec 15) ↔ y = 29) ∧
    (y.setWidth 15 = (31 : BitVec 15) ↔ y = 31) ∧ (y ≠ 31 → y.setWidth 15 + (1 : BitVec 15) = (y + 1).setWidth 15) := by
  revert y; decide

/-- IncY (61_ppu.md R943). -/
theorem scroll_incY (v : BitVec 15) : scroll (incY v) =
    if (scroll v).fineY ≠ 7 then { scroll v with fineY := (scroll v).fineY + 1 }
    else if (scroll v).coarseY = 29 then { scroll v with
      fineY := 0, coarseY := 0, vertical := ~~~(scroll v).vertical }
    else if (scroll v).coarseY = 31 then { scroll v with fineY := 0, coarseY := 0 }
    else { scroll v with fineY := 0, coarseY := (scroll v).coarseY + 1 } := by
  obtain ⟨h29, h31, hsucc⟩ := coarseY_word (scroll v).coarseY
  unfold incY
  simp only [ne_eq, and_7000_eq_iff, coarseY_shifted_out, h29, h31]
  split
  · rename_i h
    exact scroll_add_1000 v h
  split
  · rw [scroll_xor_0800, scroll_rest]
  split
  · rw [scroll_rest]
  · rename_i h
    rw [hsucc h, scroll_or, scroll_shifted, scroll_rest]
    simp

/-- Settles O50: the four functions on the fields (`scroll_incCoarseX`, `scroll_incY`, `scroll_copyHorizontal`,
`scroll_copyVertical`), read as numbers. -/
theorem scrollFields : Obligations.ScrollFields := by
  unfold Obligations.ScrollFields
  dsimp only
  intro v t
  simp only [← toNat_coarseX, ← toNat_coarseY, ← toNat_horizontal, ← toNat_vertical, ← toNat_fineY,
    scroll_copyHorizontal, scroll_copyVertical, scroll_incCoarseX, scroll_incY, and_true]
  obtain ⟨cx, cy, nx, ny, fy⟩ := scroll v
  constructor
  · by_cases h31 : cx = 31
    · simp [h31]
    · have hx : cx.toNat ≠ 31 := fun h => h31 (BitVec.eq_of_toNat_eq h)
      simp only [if_neg h31, if_neg hx, and_true]
      bv_omega
  · by_cases h7 : fy = 7
    · have hy : fy.toNat = 7 := by rw [h7]; rfl
      by_cases h29 : cy = 29
      · simp [h7, h29]
      by_cases h31 : cy = 31
      · simp [h7, h31]
      · have hc29 : cy.toNat ≠ 29 := fun h => h29 (BitVec.eq_of_toNat_eq h)
        have hc31 : cy.toNat ≠ 31 := fun h => h31 (BitVec.eq_of_toNat_eq h)
        simp only [if_neg (show ¬fy ≠ 7 from fun hne => hne h7), if_neg h29, if_neg h31, hy, hc29, hc31, or_self, and_false, if_false,
          Nat.lt_irrefl, and_true]
        refine ⟨rfl, trivial, trivial, ?_⟩
        bv_omega
    · have hy : fy.toNat ≠ 7 := fun h => h7 (BitVec.eq_of_toNat_eq h)
      have hlt : fy.toNat < 7 := by omega
      simp only [ne_eq, h7, hy, hlt, not_false_eq_true, if_true, false_and, if_false, and_true]
      bv_omega

/-! ## The registers through their mirrors -/

/-- A PPU-bus read changes nothing of the PPU. -/
theorem State.ppuBusRead_ppu (s : State) (a : Word) (use : PatternUse) : (s.ppuBusRead a use).2.ppu = s.ppu := by
  rw [← s.hook_ppu Caps.addrHook (·.addressUpdate (a &&& 0x3FFF))]
  unfold State.ppuBusRead State.addressHook
  dsimp only
  generalize s.hook Caps.addrHook (·.addressUpdate (a &&& 0x3FFF)) = t
  split
  · unfold State.patternRead
    split
    · rfl
    · exact t.drive_ppu _
  split
  · unfold State.nametableRead
    split
    · rfl
    · exact t.drive_ppu _
  · rfl

/-- The number of a PPU register is the address modulo 8 (61_ppu.md R911). -/
theorem toNat_and_7 (a : Word) : (a &&& 7).toNat = a.toNat % 8 := by
  rw [BitVec.toNat_and]
  exact Nat.and_two_pow_sub_one_eq_mod a.toNat 3

theorem State.busRead_ppuReg (s : State) {a : Word} (h : 0x2000 ≤ a.toNat) (h' : a.toNat < 0x4000) :
    s.busRead a = s.ppuRegRead (a.toNat % 8) := by
  rw [State.busRead, if_neg (show ¬a < 0x2000 by bv_omega), if_pos (show a < 0x4000 from h'), toNat_and_7]

theorem State.busWrite_ppuReg (s : State) {a : Word} (h : 0x2000 ≤ a.toNat) (h' : a.toNat < 0x4000) (d : Byte) (k : Bool) :
    s.busWrite a d k = s.ppuRegWrite (a.toNat % 8) d := by
  rw [State.busWrite, if_neg (show ¬a < 0x2000 by bv_omega), if_pos (show a < 0x4000 from h'), toNat_and_7]

/-- A byte whose bits outside `m` are not driven takes those bits, `n`, from the next draw (D18). -/
theorem State.drive_partial (s : State) {v m n : Byte} (hm : m ≠ 0xFF) (hv : v &&& m = v) (hn : ~~~m = n) :
    s.drive ⟨v, m⟩ = (v ||| (Config.openBus s.draws &&& n), { s with draws := s.draws + 1 }) := by
  rw [State.drive, if_neg hm, hv, hn]

/-- A read that nothing drives is the next draw (D18). -/
theorem State.openBus_eq (s : State) : s.openBus = (Config.openBus s.draws, { s with draws := s.draws + 1 }) := by
  have hall (b : Byte) : 0 ||| (b &&& 0xFF) = b := by
    revert b; decide
  rw [State.openBus, Driven.nothing, State.drive_partial s (n := 0xFF) (by decide) rfl rfl, hall]

/-- The PPUSTATUS read: the driven bits are the three flags, so the mask drops none of them (61_ppu.md R912). -/
theorem State.readStatus_eq (s : State) : s.readStatus =
    (flagBit s.ppu.vblank 7 ||| flagBit s.ppu.spr0Hit 6 ||| flagBit s.ppu.overflow 5 ||| (Config.openBus s.draws &&& 0x1F),
      { s with ppu := { s.ppu with vblank := false, w := false }, draws := s.draws + 1 }) := by
  have hmask (v h o : Bool) : (flagBit v 7 ||| flagBit h 6 ||| flagBit o 5) &&& 0xE0 =
      flagBit v 7 ||| flagBit h 6 ||| flagBit o 5 := by
    revert v h o; decide
  exact State.drive_partial _ (by decide) (hmask _ _ _) rfl

/-- The PPUDATA read below the palette answers the buffer (61_ppu.md R917). -/
theorem State.readData_buffered (s : State) (h : s.ppu.v.setWidth 16 &&& 0x3FFF < (0x3F00 : Word)) :
    let r := s.ppuBusRead (s.ppu.v.setWidth 16 &&& 0x3FFF)
    s.readData = (s.ppu.readBuffer,
      { r.2 with ppu := { s.ppu with
        readBuffer := r.1, v := s.ppu.v + (if s.ppu.ctrl.getLsbD 2 then 32 else 1) } }) := by
  dsimp only
  rw [State.readData]
  dsimp only
  rw [if_pos h, State.ppuBusRead_ppu]
  rfl

/-- The PPUDATA read of the palette answers at once and buffers the byte under it (61_ppu.md R917, D33). -/
theorem State.readData_palette (s : State) (h : ¬s.ppu.v.setWidth 16 &&& 0x3FFF < (0x3F00 : Word)) :
    let r := s.ppuBusRead (s.ppu.v.setWidth 16 &&& 0x3FFF)
    let b := r.2.ppuBusRead ((s.ppu.v.setWidth 16 &&& 0x3FFF) - 0x1000)
    s.readData = (r.1,
      { b.2 with ppu := { s.ppu with
        readBuffer := b.1, v := s.ppu.v + (if s.ppu.ctrl.getLsbD 2 then 32 else 1) } }) := by
  dsimp only
  rw [State.readData]
  dsimp only
  rw [if_neg h, State.ppuBusRead_ppu, State.ppuBusRead_ppu]
  rfl

theorem State.ppuBusWrite_v_ctrl (s : State) (a : Word) (d : Byte) : (s.ppuBusWrite a d).ppu.v = s.ppu.v ∧
    (s.ppuBusWrite a d).ppu.ctrl = s.ppu.ctrl := by
  rw [← s.hook_ppu Caps.addrHook (·.addressUpdate (a &&& 0x3FFF))]
  unfold State.ppuBusWrite State.addressHook
  dsimp only
  generalize s.hook Caps.addrHook (·.addressUpdate (a &&& 0x3FFF)) = t
  split
  · unfold State.patternWrite
    split <;> exact ⟨rfl, rfl⟩
  split
  · unfold State.nametableWrite
    split <;> exact ⟨rfl, rfl⟩
  · exact ⟨rfl, rfl⟩

/-- A PPUDATA write is a write of the PPU bus, then the step of `v` (61_ppu.md R917). -/
theorem State.writeData_eq (s : State) (d : Byte) :
    let u := s.ppuBusWrite (s.ppu.v.setWidth 16 &&& 0x3FFF) d
    s.writeData d =
      { u with ppu := { u.ppu with v := s.ppu.v + (if s.ppu.ctrl.getLsbD 2 then 32 else 1) } } := by
  obtain ⟨hv, hctrl⟩ := s.ppuBusWrite_v_ctrl (s.ppu.v.setWidth 16 &&& 0x3FFF) d
  dsimp only
  rw [State.writeData, Ppu.incV, Ppu.inc32, hv, hctrl]

/-- Settles O47: an access in 0x2000–0x3FFF is one of register `a % 8`; each register by its own equation. -/
theorem ppuRegisters : Obligations.PpuRegisters := by
  unfold Obligations.PpuRegisters
  intro s a d k h h'
  dsimp only
  rw [s.busRead_ppuReg h h', s.busWrite_ppuReg h h']
  refine ⟨fun hn => ?_, fun hn => ?_, fun hn => ?_, s.openBus_eq, fun hn => ?_, fun hn => ?_, fun hn => ?_, fun hn => ?_,
    fun hn => ?_, fun hn => ⟨fun hlow => ?_, fun hhigh => ?_, ?_⟩, fun hn => ?_⟩
  · rw [hn]; exact s.readStatus_eq
  · rw [hn]; rfl
  · simp only [List.mem_cons, List.not_mem_nil, or_false] at hn
    obtain hn | hn | hn | hn | hn := hn <;> rw [hn] <;> exact s.openBus_eq
  · rw [hn]; rfl
  · rw [hn]; rfl
  · rw [hn]; exact ⟨rfl, rfl⟩
  · rw [hn]; rfl
  · rw [hn]; rfl
  · rw [hn]; exact s.readData_buffered hlow
  · rw [hn]; exact s.readData_palette (Nat.not_lt.mpr hhigh)
  · rw [hn]; exact s.writeData_eq d
  · rw [hn]; rfl

/-! ## OAM DMA from a page of RAM -/

/-- Entry `i` of a page below 0x20 is a byte of RAM (20_memory.md R203). -/
theorem ramIndex_word (d i : Byte) : ramIndex (word d i) = (d.toNat * 256 + i.toNat) % 2048 := by
  rw [ramIndex_eq, word, BitVec.toNat_append, ← Nat.shiftLeft_add_eq_or_of_lt i.isLt, Nat.shiftLeft_eq]

theorem word_lt_2000 {d : Byte} (h : d.toNat < 0x20) (i : Byte) : word d i < 0x2000 := by
  rw [BitVec.lt_def, word, BitVec.toNat_append, ← Nat.shiftLeft_add_eq_or_of_lt i.isLt, Nat.shiftLeft_eq]
  have hi := i.isLt
  have h2000 : (0x2000 : Word).toNat = 0x2000 := rfl
  omega

/-- One byte of a copy from RAM: a write into OAM, and nothing else. -/
theorem State.oamCopyByte_ram (s : State) {d : Byte} (h : d.toNat < 0x20) (i : Byte) : s.oamCopyByte d i =
    { s with ppu := { s.ppu with
      oam := s.ppu.oam.write (s.ppu.oamAddr + i).toNat (s.ram.read ((d.toNat * 256 + i.toNat) % 2048)) } } := by
  rw [State.oamCopyByte, s.busRead_ram _ (word_lt_2000 h i), ramIndex_word]

/-- OAM while the last `n` entries of a page of RAM are copied: the entries from `256 - n` on hold bytes of the page, the
others what they held. -/
theorem State.oamCopy_ram {d : Byte} (h : d.toNat < 0x20) (i : Byte) (n : Nat) (hn : n ≤ 256) (s : State)
    (hwf : s.ppu.oam.wf = true) :
    (State.oamCopy d n s).ppu.oamAddr = s.ppu.oamAddr ∧
    (State.oamCopy d n s).ppu.oam.read (s.ppu.oamAddr + i).toNat =
      if 256 - n ≤ i.toNat then s.ram.read ((d.toNat * 256 + i.toNat) % 2048)
      else s.ppu.oam.read (s.ppu.oamAddr + i).toNat := by
  induction n generalizing s with
  | zero => exact ⟨rfl, (if_neg (by have := i.isLt; omega)).symm⟩
  | succ n ih =>
    rw [State.oamCopy, s.oamCopyByte_ram h]
    refine ⟨(ih (by omega) _ (Store.wf_write _ _ _ hwf)).1, ?_⟩
    refine (ih (by omega) _ (Store.wf_write _ _ _ hwf)).2.trans ?_
    have hlast : (BitVec.ofNat 8 (255 - n)).toNat = 255 - n := by
      rw [BitVec.toNat_ofNat]
      omega
    dsimp only
    by_cases hi : i.toNat = 255 - n
    · have hi' : i = BitVec.ofNat 8 (255 - n) := BitVec.eq_of_toNat_eq (hi.trans hlast.symm)
      rw [if_neg (by omega), if_pos (by omega), ← hi', Store.read_write_self _ _ _ hwf]
    · have hne : (s.ppu.oamAddr + i).toNat ≠ (s.ppu.oamAddr + BitVec.ofNat 8 (255 - n)).toNat := by
        bv_omega
      rw [Store.read_write_ne _ _ _ _ hne]
      exact ite_congr (propext (by omega)) (fun _ => rfl) (fun _ => rfl)

/-- Settles O40: the copy by `State.oamCopy_ram` at all 256 entries, the rest by `State.writeOamDma_keeps`. -/
theorem oamDma : Obligations.OamDma := by
  unfold Obligations.OamDma
  intro s d i k hwf hd
  obtain ⟨haddr, hread⟩ := State.oamCopy_ram hd i 256 (Nat.le_refl _) s hwf
  obtain ⟨hkeeps, hhalt, hbytes⟩ := s.writeOamDma_keeps d
  exact ⟨hread.trans (if_pos (by omega)), haddr, hhalt, hkeeps.cpu, hbytes⟩

end Sys2Proof.Machine
end

section
/-! PROOFS. The PPU's dot: what of the raster each action of a dot leaves as it was, then VBlank and NMI (61_ppu.md R935) and
the position (R931). -/

namespace Sys2Proof.Machine

/-- The part of the state that R931 and R935 speak of: the position, the frame, the status flags and the pending NMI. -/
structure Raster where
  scanline : Nat
  dot : Nat
  oddFrame : Bool
  bgOn : Bool
  vblank : Bool
  spr0Hit : Bool
  overflow : Bool
  framebuffer : Store 24
  frameComplete : Bool
  frameOut : Store 24
  nmiPending : Bool

/-- The raster of a state. -/
def State.raster (s : State) : Raster where
  scanline := s.ppu.scanline
  dot := s.ppu.dot
  oddFrame := s.ppu.oddFrame
  bgOn := s.ppu.bgOn
  vblank := s.ppu.vblank
  spr0Hit := s.ppu.spr0Hit
  overflow := s.ppu.overflow
  framebuffer := s.ppu.framebuffer
  frameComplete := s.ppu.frameComplete
  frameOut := s.ppu.frameOut
  nmiPending := s.nmiPending

/-- The raster looks at the PPU and the pending NMI only. -/
theorem State.raster_congr {s t : State} (hppu : t.ppu = s.ppu) (hnmi : t.nmiPending = s.nmiPending) :
    t.raster = s.raster := by
  rw [State.raster, State.raster, hppu, hnmi]

/-- Both branches of a conditional action keep the raster. -/
theorem State.raster_ite (p : Prop) [Decidable p] {s t u : State} (ht : t.raster = s.raster) (hu : u.raster = s.raster) :
    (if p then t else u).raster = s.raster := by
  split
  · exact ht
  · exact hu

theorem State.raster_hook (s : State) (declared : Caps → Bool) (call : Mapper → Mapper) :
    (s.hook declared call).raster = s.raster := by
  unfold State.hook
  split
  · split <;> rfl
  · rfl

theorem State.raster_ppuBusRead (s : State) (a : Word) (use : PatternUse) : (s.ppuBusRead a use).2.raster = s.raster :=
  State.raster_congr (s.ppuBusRead_ppu a use) (s.ppuBusRead_keeps a use).nmiPending

theorem State.raster_patternFetch (s : State) (a : Word) : (s.patternFetch a).2.raster = s.raster :=
  ((State.raster_hook _ _ _).trans (State.raster_hook _ _ _)).trans (s.raster_ppuBusRead a _)

theorem State.raster_bgFetch (s : State) : s.bgFetch.raster = s.raster := by
  unfold State.bgFetch
  split
  · exact s.raster_ppuBusRead _ _
  · exact s.raster_ppuBusRead _ _
  · exact s.raster_patternFetch _
  · exact s.raster_patternFetch _
  · rfl
  · rfl

theorem State.raster_bgDot (s : State) : s.bgDot.raster = s.raster := by
  have hfetch := State.raster_ite ((1 ≤ s.ppu.dot ∧ s.ppu.dot ≤ 256) ∨ (321 ≤ s.ppu.dot ∧ s.ppu.dot ≤ 336))
    (State.raster_bgFetch { s with ppu := s.ppu.shiftDotActions }) rfl
  exact State.raster_ite _ ((State.raster_ppuBusRead _ _ _).trans hfetch) hfetch

theorem State.raster_spriteLow (s : State) : s.spriteLow.2.raster = s.raster := by
  unfold State.spriteLow
  split <;> rfl

theorem State.raster_spriteFetch (s : State) : s.spriteFetch.raster = s.raster := by
  unfold State.spriteFetch
  dsimp only
  split
  · exact s.raster_ppuBusRead _ _
  · exact s.raster_ppuBusRead _ _
  · exact s.raster_patternFetch _
  · exact (State.raster_spriteLow _).trans (s.raster_patternFetch _)
  · rfl

/-- Sprite evaluation, at dot 257, sets the overflow flag only (61_ppu.md R950). -/
theorem State.raster_evaluate (s : State) : State.raster { s with ppu := s.ppu.evaluate } =
    { s.raster with overflow := s.ppu.evaluate.overflow } := by
  simp only [State.raster, Ppu.evaluate]
  split <;> rfl

theorem State.raster_spriteDot (s : State) : s.spriteDot.raster =
    if s.ppu.dot = 257 then { s.raster with overflow := s.ppu.evaluate.overflow } else s.raster := by
  have hfetch (u : State) :
      (if 257 ≤ u.ppu.dot ∧ u.ppu.dot ≤ 320 then u.spriteFetch else u).raster = u.raster :=
    State.raster_ite _ u.raster_spriteFetch rfl
  refine (hfetch _).trans ?_
  split
  · exact s.raster_evaluate
  · rfl

theorem State.raster_phaseDot (s : State) : s.phaseDot.raster = s.raster :=
  State.raster_ite _ (s.raster_hook _ _) (State.raster_ite _ (s.raster_hook _ _) rfl)

theorem State.raster_endLow (s : State) : s.endLow.raster = s.raster := State.raster_ite _ rfl rfl

/-- The actions of a rendered dot change of the raster at most the overflow flag, and that at dot 257 only. -/
theorem State.raster_rendered (s : State) : ∃ o, s.phaseDot.bgDot.spriteDot.raster = { s.raster with overflow := o } ∧
    (s.ppu.dot ≠ 257 → o = s.ppu.overflow) := by
  have hbg : s.phaseDot.bgDot.raster = s.raster := (State.raster_bgDot _).trans s.raster_phaseDot
  have hdot : s.phaseDot.bgDot.ppu.dot = s.ppu.dot := congrArg Raster.dot hbg
  rw [State.raster_spriteDot, hbg, hdot]
  split
  · rename_i h
    exact ⟨_, rfl, fun hne => absurd h hne⟩
  · exact ⟨_, rfl, fun _ => rfl⟩

/-- The pixel of a dot writes the framebuffer and can set the sprite-zero flag. -/
theorem State.raster_pixelDot (s : State) : ∃ f h, State.raster { s with ppu := s.ppu.pixelDot s.params.spr0XMinClipped } =
    { s.raster with framebuffer := f, spr0Hit := h } := by
  simp only [State.raster, Ppu.pixelDot]
  split <;> exact ⟨_, _, rfl⟩

/-- What the actions of a dot change of the raster: after VBlank, the overflow flag at dot 257, and the framebuffer and the
sprite-zero flag on the scanlines that are drawn. -/
theorem State.raster_dotActions (s : State) : ∃ o f h,
    s.dotActions.raster = { s.vblankDot.raster with overflow := o, framebuffer := f, spr0Hit := h } ∧
    (s.vblankDot.ppu.dot ≠ 257 → o = s.vblankDot.ppu.overflow) ∧
    (240 ≤ s.vblankDot.ppu.scanline → f = s.vblankDot.ppu.framebuffer ∧ h = s.vblankDot.ppu.spr0Hit) := by
  unfold State.dotActions
  dsimp only
  generalize s.vblankDot = u
  obtain ⟨o, ho, hdot⟩ : ∃ o, (State.endLow (if u.ppu.rendered then u.phaseDot.bgDot.spriteDot else u)).raster =
      { u.raster with overflow := o } ∧ (u.ppu.dot ≠ 257 → o = u.ppu.overflow) := by
    rw [State.raster_endLow]
    split
    · exact u.raster_rendered
    · exact ⟨_, rfl, fun _ => rfl⟩
  generalize State.endLow (if u.ppu.rendered then u.phaseDot.bgDot.spriteDot else u) = t at ho ⊢
  have hline : t.ppu.scanline = u.ppu.scanline := congrArg Raster.scanline ho
  split
  · rename_i hdrawn
    obtain ⟨f, h, hpixel⟩ := t.raster_pixelDot
    exact ⟨o, f, h, by rw [hpixel, ho], hdot, fun hline' => absurd hdrawn.1 (by omega)⟩
  · exact ⟨o, _, _, ho, hdot, fun _ => ⟨rfl, rfl⟩⟩

/-! ## The position -/

/-- Whether a dot is the last of its scanline (61_ppu.md R931): dot 340, or dot 339 of scanline 261 on an odd frame with the
background on. -/
def Raster.ends (r : Raster) : Prop :=
  r.dot = 340 ∨ (r.scanline = 261 ∧ r.dot = 339 ∧ r.oddFrame = true ∧ r.bgOn = true)

theorem State.raster_nextDot_of_not_ends (s : State) (h : ¬s.raster.ends) :
    s.nextDot.raster = { s.raster with dot := s.ppu.dot + 1 } := by
  obtain ⟨h340, hskip⟩ := not_or.mp h
  have h341 : s.ppu.dot + 1 ≠ 341 := fun h341 => h340 (Nat.succ.inj h341)
  have hlast : (if s.ppu.scanline = 261 ∧ s.ppu.dot = 339 ∧ s.ppu.oddFrame = true ∧ s.ppu.bgOn = true then 340
      else s.ppu.dot) = s.ppu.dot := if_neg hskip
  unfold State.nextDot
  dsimp only
  rw [hlast, if_neg h341]
  rfl

theorem State.raster_nextDot_of_ends (s : State) (h : s.raster.ends) : s.nextDot.raster =
    if s.ppu.scanline = 261 then { s.raster with
      scanline := 0, dot := 0, oddFrame := !s.ppu.oddFrame, frameComplete := true, frameOut := s.ppu.framebuffer }
    else { s.raster with scanline := s.ppu.scanline + 1, dot := 0 } := by
  have hlast : (if s.ppu.scanline = 261 ∧ s.ppu.dot = 339 ∧ s.ppu.oddFrame = true ∧ s.ppu.bgOn = true then 340
      else s.ppu.dot) + 1 = 341 := by
    obtain h340 | hskip := h
    · have h340 : s.ppu.dot = 340 := h340
      split <;> omega
    · exact congrArg (· + 1) (if_pos hskip)
  have hhook := s.hook_ppu Caps.scanlineHook (·.onScanline s.ppu.scanline s.ppu.rendering)
  have hnmi := congrArg Raster.nmiPending
    (s.raster_hook Caps.scanlineHook (·.onScanline s.ppu.scanline s.ppu.rendering))
  unfold State.nextDot
  dsimp only
  rw [if_pos hlast]
  generalize s.hook Caps.scanlineHook (·.onScanline s.ppu.scanline s.ppu.rendering) = t at hhook hnmi ⊢
  have hnmi : t.nmiPending = s.nmiPending := hnmi
  by_cases h261 : s.ppu.scanline = 261
  · rw [if_pos (by omega), if_pos h261]
    simp only [State.raster, hhook, hnmi]
    rfl
  · rw [if_neg (by omega), if_neg h261]
    simp only [State.raster, hhook, hnmi]
    rfl

/-- The advance of the position leaves the status flags and the pending NMI. -/
theorem State.nextDot_flags (s : State) : s.nextDot.ppu.vblank = s.ppu.vblank ∧ s.nextDot.ppu.spr0Hit = s.ppu.spr0Hit ∧
    s.nextDot.ppu.overflow = s.ppu.overflow ∧ s.nextDot.nmiPending = s.nmiPending := by
  have hflags : ∃ l d o c f, s.nextDot.raster =
      { s.raster with scanline := l, dot := d, oddFrame := o, frameComplete := c, frameOut := f } := by
    by_cases h : s.raster.ends
    · rw [s.raster_nextDot_of_ends h]
      split <;> exact ⟨_, _, _, _, _, rfl⟩
    · exact ⟨_, _, _, _, _, s.raster_nextDot_of_not_ends h⟩
  obtain ⟨l, d, o, c, f, h⟩ := hflags
  exact ⟨congrArg Raster.vblank h, congrArg Raster.spr0Hit h, congrArg Raster.overflow h, congrArg Raster.nmiPending h⟩

/-! ## VBlank and NMI -/

theorem State.raster_vblankDot_set (s : State) (hline : s.ppu.scanline = 241) (hdot : s.ppu.dot = 1) :
    s.vblankDot.raster = { s.raster with vblank := true, nmiPending := s.nmiPending || s.ppu.nmiOn } := by
  rw [State.vblankDot]
  exact congrArg State.raster (if_pos ⟨hline, hdot⟩)

theorem State.raster_vblankDot_clear (s : State) (hline : s.ppu.scanline = 261) (hdot : s.ppu.dot = 1) :
    s.vblankDot.raster = { s.raster with vblank := false, spr0Hit := false, overflow := false } := by
  rw [State.vblankDot]
  exact congrArg State.raster ((if_neg (by omega)).trans (if_pos ⟨hline, hdot⟩))

theorem State.vblankDot_elsewhere (s : State)
    (h : ¬((s.ppu.scanline = 241 ∨ s.ppu.scanline = 261) ∧ s.ppu.dot = 1)) : s.vblankDot = s := by
  rw [State.vblankDot]
  exact (if_neg (by omega)).trans (if_neg (by omega))

/-- A dot leaves VBlank and the pending NMI as R935 sets them: its other actions do not touch them. -/
theorem State.ppuTick_vblank (s : State) :
    s.ppuTick.ppu.vblank = s.vblankDot.ppu.vblank ∧ s.ppuTick.nmiPending = s.vblankDot.nmiPending := by
  obtain ⟨hvblank, -, -, hnmi⟩ := s.dotActions.nextDot_flags
  obtain ⟨o, f, h, hactions, -, -⟩ := s.raster_dotActions
  rw [State.ppuTick, hvblank, hnmi]
  generalize s.dotActions = d at hactions ⊢
  generalize s.vblankDot = u at hactions ⊢
  exact ⟨congrArg Raster.vblank hactions, congrArg Raster.nmiPending hactions⟩

/-- At a dot other than 257 of a scanline that is not drawn, the sprite flags too are as R935 sets them. -/
theorem State.ppuTick_sprite_flags (s : State) (hdot : s.vblankDot.ppu.dot ≠ 257)
    (hline : 240 ≤ s.vblankDot.ppu.scanline) : s.ppuTick.ppu.spr0Hit = s.vblankDot.ppu.spr0Hit ∧
      s.ppuTick.ppu.overflow = s.vblankDot.ppu.overflow := by
  obtain ⟨-, hspr0, hoverflow, -⟩ := s.dotActions.nextDot_flags
  obtain ⟨o, f, h, hactions, ho, hdrawn⟩ := s.raster_dotActions
  rw [State.ppuTick, hspr0, hoverflow, ← (hdrawn hline).2, ← ho hdot]
  generalize s.dotActions = d at hactions ⊢
  exact ⟨congrArg Raster.spr0Hit hactions, congrArg Raster.overflow hactions⟩

/-- Settles O48: the flags of R935 at the three kinds of position, which the rest of the dot keeps (`State.ppuTick_vblank`,
`State.ppuTick_sprite_flags`). -/
theorem vBlankDot : Obligations.VBlankDot := by
  unfold Obligations.VBlankDot
  intro s
  obtain ⟨hvblank, hnmi⟩ := s.ppuTick_vblank
  have hsprite := s.ppuTick_sprite_flags
  dsimp only
  generalize s.ppuTick = t at hvblank hnmi hsprite ⊢
  refine ⟨fun hline hdot => ?_, fun hline hdot => ?_, fun helse => ?_⟩
  · have hset := s.raster_vblankDot_set hline hdot
    generalize s.vblankDot = u at hset hvblank hnmi
    exact ⟨hvblank.trans (congrArg Raster.vblank hset), hnmi.trans (congrArg Raster.nmiPending hset)⟩
  · have hclear := s.raster_vblankDot_clear hline hdot
    generalize s.vblankDot = u at hclear hvblank hnmi hsprite
    have hdot' : u.ppu.dot = 1 := (congrArg Raster.dot hclear).trans hdot
    have hline' : u.ppu.scanline = 261 := (congrArg Raster.scanline hclear).trans hline
    obtain ⟨hspr0, hoverflow⟩ := hsprite (by omega) (by omega)
    exact ⟨hvblank.trans (congrArg Raster.vblank hclear), hspr0.trans (congrArg Raster.spr0Hit hclear),
      hoverflow.trans (congrArg Raster.overflow hclear), hnmi.trans (congrArg Raster.nmiPending hclear)⟩
  · rw [s.vblankDot_elsewhere helse] at hvblank hnmi
    exact ⟨hvblank, hnmi⟩

/-- What the actions of a dot keep: the position, the parity, the frames handed over, and the framebuffer where it is not
drawn. -/
theorem State.dotActions_position (s : State) : ∃ v h o n f, s.dotActions.raster =
    { s.raster with vblank := v, spr0Hit := h, overflow := o, nmiPending := n, framebuffer := f } ∧
    (240 ≤ s.ppu.scanline → f = s.ppu.framebuffer) := by
  obtain ⟨v, h, o, n, hvblank⟩ : ∃ v h o n, s.vblankDot.raster =
      { s.raster with vblank := v, spr0Hit := h, overflow := o, nmiPending := n } := by
    unfold State.vblankDot
    dsimp only
    split
    · exact ⟨_, _, _, _, rfl⟩
    split
    · exact ⟨_, _, _, _, rfl⟩
    · exact ⟨_, _, _, _, rfl⟩
  have hline : s.vblankDot.ppu.scanline = s.ppu.scanline := congrArg Raster.scanline hvblank
  have hframe : s.vblankDot.ppu.framebuffer = s.ppu.framebuffer := congrArg Raster.framebuffer hvblank
  obtain ⟨o', f, h', hactions, -, hdrawn⟩ := s.raster_dotActions
  refine ⟨v, h', o', n, f, ?_, fun h240 => ((hdrawn (by omega)).1).trans hframe⟩
  rw [hactions, hvblank]

/-- Settles O49: the actions of a dot leave the position (`State.dotActions_position`), so whether it ends its scanline is
read off the state before it, and the advance is `State.raster_nextDot_of_ends` or `State.raster_nextDot_of_not_ends`. -/
theorem positionAdvances : Obligations.PositionAdvances := by
  unfold Obligations.PositionAdvances
  intro s hline _
  dsimp only
  change (¬s.raster.ends → _) ∧ (s.raster.ends → _) ∧ (s.raster.ends ∧ _ → _) ∧ (¬(s.raster.ends ∧ _) → _)
  obtain ⟨v, h, o, n, f, hactions, hf⟩ := s.dotActions_position
  rw [State.ppuTick]
  generalize s.dotActions = d at hactions ⊢
  have hends : d.raster.ends ↔ s.raster.ends := by
    rw [hactions]
    rfl
  have hscanline : d.ppu.scanline = s.ppu.scanline := congrArg Raster.scanline hactions
  have hdot : d.ppu.dot = s.ppu.dot := congrArg Raster.dot hactions
  have hodd : d.ppu.oddFrame = s.ppu.oddFrame := congrArg Raster.oddFrame hactions
  have hframe : d.ppu.framebuffer = f := congrArg Raster.framebuffer hactions
  by_cases he : s.raster.ends
  · have hnext := d.raster_nextDot_of_ends (hends.mpr he)
    rw [hactions, hscanline, hodd, hframe] at hnext
    generalize d.nextDot = t at hnext ⊢
    by_cases h261 : s.ppu.scanline = 261
    · rw [if_pos h261] at hnext
      rw [← hf (by omega), h261]
      exact ⟨fun h => absurd he h, fun _ => ⟨congrArg Raster.dot hnext, congrArg Raster.scanline hnext⟩,
        fun _ => ⟨congrArg Raster.oddFrame hnext, congrArg Raster.frameComplete hnext, congrArg Raster.frameOut hnext,
          congrArg Raster.framebuffer hnext⟩, fun h => absurd ⟨he, rfl⟩ h⟩
    · rw [if_neg h261] at hnext
      rw [Nat.mod_eq_of_lt (by omega)]
      exact ⟨fun h => absurd he h, fun _ => ⟨congrArg Raster.dot hnext, congrArg Raster.scanline hnext⟩,
        fun h => absurd h.2 h261, fun _ => ⟨congrArg Raster.oddFrame hnext, congrArg Raster.frameComplete hnext,
          congrArg Raster.frameOut hnext⟩⟩
  · have hnext := d.raster_nextDot_of_not_ends (mt hends.mp he)
    rw [hactions, hdot] at hnext
    generalize d.nextDot = t at hnext ⊢
    exact ⟨fun _ => ⟨congrArg Raster.dot hnext, congrArg Raster.scanline hnext⟩, fun h => absurd h he,
      fun h => absurd h.1 he, fun _ => ⟨congrArg Raster.oddFrame hnext, congrArg Raster.frameComplete hnext,
        congrArg Raster.frameOut hnext⟩⟩

end Sys2Proof.Machine
end

section
/-! PROOFS. The APU and the controller ports (62_apu_io.md): the status, enable and frame-counter registers (R1070, R1071,
R1052), the quarter and half clocks and the frame sequencer (R1005–R1007, R1011, R1050, R1051), the bound of the mixer (R1091)
and the ports (R1080, R1081). -/

namespace Sys2Proof.Machine

variable {w : Nat}

/-! ## The registers at 0x4015 and 0x4017 -/

/-- A word is not 0 when its number is positive. -/
theorem toNat_pos_iff (b : BitVec w) : 0 < b.toNat ↔ b ≠ 0 := b.toNat_pos.trans b.pos_iff_ne_zero

theorem decide_toNat_pos (b : BitVec w) : decide (0 < b.toNat) = (b != 0) := by
  rw [decide_eq_decide.mpr (toNat_pos_iff b), decide_not]
  rfl

/-- What the status read answers and clears (62_apu_io.md R1070); bit 5 is the one its mask leaves to open bus. -/
theorem State.readApuStatus_eq (s : State) : s.readApuStatus =
    (s.apu.statusByte ||| (Config.openBus s.draws &&& 0x20),
      { s with apu := { s.apu with frame := { s.apu.frame with irq := false } }, draws := s.draws + 1 }) := by
  have hmask (a b c d e f g : Bool) :
      (flagBit a 7 ||| flagBit b 6 ||| flagBit c 4 ||| flagBit d 3 ||| flagBit e 2 ||| flagBit f 1 ||| flagBit g 0) &&& 0xDF =
        flagBit a 7 ||| flagBit b 6 ||| flagBit c 4 ||| flagBit d 3 ||| flagBit e 2 ||| flagBit f 1 ||| flagBit g 0 := by
    revert a b c d e f g; decide
  exact State.drive_partial _ (by decide) (hmask _ _ _ _ _ _ _) rfl

/-- The start of a sample in numbers (62_apu_io.md R1071). -/
theorem Dmc.restart_eq (p : Dmc) : p.restart = { p with
    curAddr := BitVec.ofNat 16 (0xC000 + 64 * p.addrReg.toNat), remaining := BitVec.ofNat 12 (16 * p.lenReg.toNat + 1) } := by
  have haddr : (0xC000 : Word) + (p.addrReg.setWidth 16 <<< 6) = BitVec.ofNat 16 (0xC000 + 64 * p.addrReg.toNat) := by bv_omega
  have hlen : (p.lenReg.setWidth 12 <<< 4) + 1 = BitVec.ofNat 12 (16 * p.lenReg.toNat + 1) := by bv_omega
  rw [Dmc.restart, hlen, ← haddr]
  rfl

/-- What bit 4 of an enable write does to the DMC (62_apu_io.md R1071). -/
theorem Apu.writeEnables_dmc (u : Apu) (d : Byte) : (u.writeEnables d).dmc = { u.dmc with
    remaining := if d.getLsbD 4 = false then 0 else if u.dmc.remaining = 0
      then BitVec.ofNat 12 (16 * u.dmc.lenReg.toNat + 1) else u.dmc.remaining
    curAddr := if d.getLsbD 4 = true ∧ u.dmc.remaining = 0
      then BitVec.ofNat 16 (0xC000 + 64 * u.dmc.addrReg.toNat) else u.dmc.curAddr
    irq := false } := by
  unfold Apu.writeEnables
  dsimp only
  cases d.getLsbD 4 with
  | false => rfl
  | true =>
    by_cases hdone : u.dmc.remaining = 0
    · simp only [hdone, Dmc.restart_eq, if_true, and_self, Bool.true_eq_false, if_false]
    · simp only [hdone, and_false, Bool.true_eq_false, if_false]

/-- Settles O52: the status read, the enables (`Apu.writeEnables_dmc`) and the frame-counter write at their addresses. -/
theorem apuRegisters : Obligations.ApuRegisters := by
  unfold Obligations.ApuRegisters
  intro s d k
  dsimp only
  refine ⟨?_, ⟨rfl, rfl, rfl, rfl, rfl, s.apu.writeEnables_dmc d, rfl, rfl, rfl⟩, rfl⟩
  refine s.readApuStatus_eq.trans (Prod.ext ?_ rfl)
  simp only [decide_toNat_pos, Apu.statusByte]
  ac_rfl

/-! ## The quarter and half clocks -/

/-- The envelope's clock (62_apu_io.md R1005). -/
theorem Envelope.clock_eq (e : Envelope) (vol : BitVec 4) (loop : Bool) : e.clock vol loop =
    if e.start = true then { start := false, div := vol, decay := 15 }
    else if e.div = 0 then
      { e with div := vol, decay := if 0 < e.decay.toNat then e.decay - 1 else if loop = true then 15 else 0 }
    else { e with div := e.div - 1 } := by
  simp only [Envelope.clock, toNat_pos_iff]
  by_cases hdecay : e.decay = 0
  · simp only [hdecay]
  · simp only [hdecay, ne_eq, not_false_eq_true, if_true]

/-- The linear counter's clock (62_apu_io.md R1011). -/
theorem Triangle.linClock_eq (p : Triangle) : p.linClock = { p with
    lin := if p.linReload = true then p.linReloadVal else if 0 < p.lin.toNat then p.lin - 1 else 0
    linReload := p.control && p.linReload } := by
  have hreload : (if p.control then p.linReload else false) = (p.control && p.linReload) := by
    cases p.control <;> rfl
  simp only [Triangle.linClock, toNat_pos_iff, hreload]
  by_cases hlin : p.lin = 0
  · simp only [hlin, ne_eq, not_true_eq_false, if_false]
  · simp only [hlin, ne_eq, not_false_eq_true, if_true]

/-- The target of a sweep in numbers (62_apu_io.md R1006); `one` is what pulse 1 subtracts more than pulse 2. -/
theorem Pulse.sweepTarget_eq (p : Pulse) (second : Bool) : p.sweepTarget second =
    if p.swNeg = true
    then p.period.toNat - ((p.period.toNat / 2 ^ p.swShift.toNat : Nat) : Int) - (if second then 0 else 1)
    else p.period.toNat + ((p.period.toNat / 2 ^ p.swShift.toNat : Nat) : Int) := by
  rw [Pulse.sweepTarget, BitVec.toNat_ushiftRight, Nat.shiftRight_eq_div_pow]

theorem Pulse.sweepMute_eq_false_iff (p : Pulse) (second : Bool) : p.sweepMute second = false ↔
    ¬(p.period.toNat < 8 ∨ 0x7FF < p.sweepTarget second) := by
  rw [Pulse.sweepMute, Bool.or_eq_false_iff, decide_eq_false_iff_not, decide_eq_false_iff_not, ← not_or]
  rfl

/-- The sweep unit's clock (62_apu_io.md R1006). -/
theorem Pulse.sweepClock_eq (p : Pulse) (second : Bool) : p.sweepClock second = { p with
    period := if p.swDiv = 0 ∧ p.swEn = true ∧ p.swShift ≠ 0 ∧
        ¬(p.period.toNat < 8 ∨ 0x7FF < p.sweepTarget second)
      then BitVec.ofInt 11 (p.sweepTarget second) else p.period
    swDiv := if p.swDiv = 0 ∨ p.swReload = true then p.swPeriod else p.swDiv - 1
    swReload := false } := by
  simp only [Pulse.sweepClock, Pulse.sweepMute_eq_false_iff]
  by_cases hdiv : p.swDiv = 0 ∨ p.swReload = true
  · rw [if_pos hdiv, if_pos hdiv]
    split <;> rfl
  · obtain ⟨hzero, hreload⟩ := not_or.mp hdiv
    rw [if_neg hdiv, if_neg hdiv, if_neg (fun h => hzero h.1), if_neg (fun h => hzero h.1)]
    rw [← Bool.eq_false_iff.mpr hreload]

/-- The length counter's clock (62_apu_io.md R1007). -/
theorem lengthClock_eq (l : Byte) (halt : Bool) :
    lengthClock l halt = if 0 < l.toNat ∧ halt = false then l - 1 else l := by
  simp only [lengthClock, toNat_pos_iff]

/-! ## The frame sequencer -/

/-- The last clock of the sequence (62_apu_io.md R1051). -/
def FrameCounter.lastClock (f : FrameCounter) : Nat := if f.mode then 37281 else 29829

/-- What the sequencer clocks at count `n` (62_apu_io.md R1051). -/
def Apu.clockedAt (u : Apu) (n : Nat) : Apu :=
  if n = 7457 ∨ n = 22371 then u.quarter else if n = 14913 ∨ n = u.frame.lastClock then u.quarter.half else u

/-- A tick of the frame sequencer: the units it clocks, its IRQ and its count (62_apu_io.md R1050, R1051). -/
theorem Apu.frameTick_eq (u : Apu) : u.frameTick = { u.clockedAt (u.frame.cycle + 1) with
    frame := { u.frame with
      irq := u.frame.irq || (!u.frame.mode && u.frame.cycle + 1 == 29829 && !u.frame.irqInhibit)
      cycle := if u.frame.cycle + 1 = u.frame.lastClock + 1 then 0 else u.frame.cycle + 1 } } := by
  unfold Apu.frameTick Apu.clockedAt FrameCounter.lastClock
  dsimp only
  generalize u.frame.cycle + 1 = n
  cases u.frame.mode with
  | false =>
    obtain rfl | rfl | rfl | rfl | rfl | ⟨hquarter, hhalf, hlast, hend⟩ : n = 7457 ∨ n = 22371 ∨ n = 14913 ∨ n = 29829 ∨
        n = 29830 ∨ (¬(n = 7457 ∨ n = 22371) ∧ n ≠ 14913 ∧ n ≠ 29829 ∧ n ≠ 29830) := by omega
    · simp [Apu.quarter]
    · simp [Apu.quarter]
    · simp [Apu.quarter, Apu.half]
    · simp [Apu.quarter, Apu.half]
    · simp
    · simp [hquarter, hhalf, hlast, hend]
  | true =>
    obtain rfl | rfl | rfl | rfl | rfl | ⟨hquarter, hhalf, hlast, hend⟩ : n = 7457 ∨ n = 22371 ∨ n = 14913 ∨ n = 37281 ∨
        n = 37282 ∨ (¬(n = 7457 ∨ n = 22371) ∧ n ≠ 14913 ∧ n ≠ 37281 ∧ n ≠ 37282) := by omega
    · simp [Apu.quarter]
    · simp [Apu.quarter]
    · simp [Apu.quarter, Apu.half]
    · simp [Apu.quarter, Apu.half]
    · simp
    · simp [hquarter, hhalf, hlast, hend]

theorem Apu.clockedAt_quarter (u : Apu) {n : Nat} (h : n ∈ [7457, 22371]) : u.clockedAt n = u.quarter :=
  if_pos (by simpa using h)

theorem Apu.clockedAt_half (u : Apu) {n : Nat} (h : n ∈ [14913, u.frame.lastClock]) :
    u.clockedAt n = u.quarter.half := by
  have h : n = 14913 ∨ n = u.frame.lastClock := by simpa using h
  have hquarter : ¬(n = 7457 ∨ n = 22371) := by
    rw [FrameCounter.lastClock] at h
    split at h <;> omega
  rw [Apu.clockedAt, if_neg hquarter, if_pos h]

theorem Apu.clockedAt_elsewhere (u : Apu) {n : Nat} (h : n ∉ [7457, 14913, 22371, u.frame.lastClock]) :
    u.clockedAt n = u := by
  simp only [List.mem_cons, List.not_mem_nil, or_false, not_or] at h
  obtain ⟨h1, h2, h3, h4⟩ := h
  rw [Apu.clockedAt, if_neg (not_or.mpr ⟨h1, h3⟩), if_neg (not_or.mpr ⟨h2, h4⟩)]

/-- Without a half clock no length counter and no pulse period changes. -/
theorem Apu.clockedAt_lengths (u : Apu) {n : Nat} (h : n ∉ [14913, u.frame.lastClock]) :
    (u.clockedAt n).p1.length = u.p1.length ∧ (u.clockedAt n).p2.length = u.p2.length ∧
      (u.clockedAt n).tri.length = u.tri.length ∧ (u.clockedAt n).noise.length = u.noise.length ∧
      (u.clockedAt n).p1.period = u.p1.period ∧ (u.clockedAt n).p2.period = u.p2.period := by
  rw [Apu.clockedAt]
  split
  · exact ⟨rfl, rfl, rfl, rfl, rfl, rfl⟩
  · rw [if_neg (by simpa using h)]
    exact ⟨rfl, rfl, rfl, rfl, rfl, rfl⟩

theorem Apu.clockedAt_dmc (u : Apu) (n : Nat) : (u.clockedAt n).dmc = u.dmc := by
  rw [Apu.clockedAt]
  split
  · rfl
  · split <;> rfl

/-- Settles O53: the tick by `Apu.frameTick_eq`, the clocks of the units by their equations. -/
theorem frameSequencer : Obligations.FrameSequencer := by
  unfold Obligations.FrameSequencer
  intro u
  dsimp only
  change _ ∧ _ ∧ (_ ∈ [14913, u.frame.lastClock] → _) ∧ (_ ∉ [7457, 14913, 22371, u.frame.lastClock] → _) ∧
    (_ ∉ [14913, u.frame.lastClock] → _) ∧ _
  rw [u.frameTick_eq]
  refine ⟨⟨?_, rfl, rfl, rfl, u.clockedAt_dmc _⟩, fun h => ?_, fun h => ?_, fun h => ?_, u.clockedAt_lengths, ?quarter, ?half⟩
  · rw [FrameCounter.lastClock]
    cases u.frame.mode <;> rfl
  · rw [u.clockedAt_quarter h]
    exact ⟨rfl, rfl, rfl, rfl⟩
  · rw [u.clockedAt_half h]
    exact ⟨rfl, rfl, rfl, rfl⟩
  · rw [u.clockedAt_elsewhere h]
    exact ⟨rfl, rfl, rfl, rfl⟩
  case quarter =>
    simp only [← Envelope.clock_eq, ← Triangle.linClock_eq]
    rfl
  case half =>
    simp only [Apu.half, Pulse.sweepClock_eq, lengthClock_eq, Pulse.sweepTarget_eq]
    rfl

/-! ## The mixer -/

theorem envVolume_le (constVol : Bool) (vol : BitVec 4) (e : Envelope) : envVolume constVol vol e ≤ 15 := by
  have hvol := vol.isLt
  have hdecay := e.decay.isLt
  unfold envVolume
  split <;> omega

theorem Pulse.output_le (p : Pulse) (second : Bool) : p.output second ≤ 15 := by
  unfold Pulse.output
  split
  · exact Nat.zero_le _
  · exact envVolume_le _ _ _

theorem Triangle.output_le (p : Triangle) : p.output ≤ 15 := by
  have hseq := p.seq.isLt
  unfold Triangle.output triTable
  split <;> omega

theorem Noise.output_le (p : Noise) : p.output ≤ 15 := by
  unfold Noise.output
  split
  · exact Nat.zero_le _
  · exact envVolume_le _ _ _

/-- A larger divisor gives a smaller quotient. -/
theorem rat_div_le_div {a x y : Rat} (ha : 0 ≤ a) (hx : 0 < x) (hxy : x ≤ y) : a / y ≤ a / x := by
  have hy : 0 < y := by grind
  have hquot : 0 ≤ a / y := Rat.mul_nonneg ha (Rat.le_of_lt (Rat.inv_pos.mpr hy))
  have hmul : a / y * x ≤ a := calc
    a / y * x ≤ a / y * y := Rat.mul_le_mul_of_nonneg_left hxy hquot
    _ = a := Rat.div_mul_cancel (Rat.ne_of_lt hy).symm
  refine Rat.not_lt.mp fun hlt => ?_
  rw [Rat.div_lt_iff hx] at hlt
  exact Rat.not_lt.mpr hmul hlt

/-- Both curves of the mixer, `a / (b / n + 100)` for a positive sum `n`, rise with the sum: up to `N` they lie between 0 and
their value at `N`. -/
theorem mixCurve_le {a b : Rat} (ha : 0 ≤ a) (hb : 0 < b) {n N : Nat} (hn : 0 < n) (h : n ≤ N) :
    0 ≤ a / (b / n + 100) ∧ a / (b / n + 100) ≤ a / (b / N + 100) := by
  have hpos {k : Nat} (hk : 0 < k) : 0 < b / k + 100 := by
    have hquot : 0 < b / k := Rat.mul_pos hb (Rat.inv_pos.mpr (Rat.natCast_pos.mpr hk))
    grind
  have hdiv : b / N ≤ b / n := rat_div_le_div (Rat.le_of_lt hb) (Rat.natCast_pos.mpr hn) (Rat.natCast_le_natCast.mpr h)
  exact ⟨Rat.mul_nonneg ha (Rat.le_of_lt (Rat.inv_pos.mpr (hpos hn))),
    rat_div_le_div ha (hpos (Nat.lt_of_lt_of_le hn h)) (Rat.add_le_add_right.mpr hdiv)⟩

theorem pulseMix_mem {n : Nat} (h : n ≤ 30) : 0 ≤ pulseMix id n ∧ pulseMix id n ≤ 9552 / 100 / (8128 / (30 : Nat) + 100) := by
  unfold pulseMix
  split
  · constructor <;> grind
  · rename_i hn
    exact mixCurve_le (by grind) (by grind) (Nat.pos_of_ne_zero hn) h

theorem tndMix_mem {n : Nat} (h : n ≤ 202) : 0 ≤ tndMix id n ∧ tndMix id n ≤ 16367 / 100 / (24329 / (202 : Nat) + 100) := by
  unfold tndMix
  split
  · constructor <;> grind
  · rename_i hn
    exact mixCurve_le (by grind) (by grind) (Nat.pos_of_ne_zero hn) h

/-- Settles O54: the two sums are at most 30 and 202, and at those the curves add up to less than 1. -/
theorem mixInRange : Obligations.MixInRange := by
  unfold Obligations.MixInRange
  intro u
  have hp1 := u.p1.output_le false
  have hp2 := u.p2.output_le true
  have htri := u.tri.output_le
  have hnoise := u.noise.output_le
  have hdmc := u.dmc.level.isLt
  obtain ⟨hp0, hp⟩ := pulseMix_mem (n := u.p1.output false + u.p2.output true) (by omega)
  obtain ⟨ht0, ht⟩ := tndMix_mem (n := 3 * u.tri.output + 2 * u.noise.output + u.dmc.level.toNat) (by omega)
  refine ⟨Rat.add_nonneg hp0 ht0, ?_⟩
  have hmix : u.mix id ≤ 9552 / 100 / (8128 / (30 : Nat) + 100) + 16367 / 100 / (24329 / (202 : Nat) + 100) :=
    Rat.le_trans (Rat.add_le_add_right.mpr hp) (Rat.add_le_add_left.mpr ht)
  have hlt : (9552 / 100 / (8128 / (30 : Nat) + 100) + 16367 / 100 / (24329 / (202 : Nat) + 100) : Rat) < 1 := by grind
  exact Rat.not_le.mp fun hge => Rat.not_le.mpr hlt (Rat.le_trans hge hmix)

/-! ## The controller ports -/

/-- Bit 0 of a byte of which a port drives bit 0. -/
theorem State.drive_bit0 (s : State) (b : Bool) : (s.drive ⟨flagBit b 0, 0x01⟩).1.getLsbD 0 = b := by
  have hbit (c : Bool) (o : Byte) : ((flagBit c 0 &&& 0x01) ||| (o &&& ~~~0x01)).getLsbD 0 = c := by
    revert c o; decide
  exact hbit b _

theorem State.drive_pads (s : State) (d : Driven) : (s.drive d).2.pads = s.pads := by
  unfold State.drive
  split <;> rfl

/-- The port read at 0x4016 or 0x4017. -/
def Pads.port (p : Pads) (a : Word) : Pad := if a = 0x4016 then p.pad1 else p.pad2

/-- The port that is not read at 0x4016 or 0x4017. -/
def Pads.other (p : Pads) (a : Word) : Pad := if a = 0x4016 then p.pad2 else p.pad1

theorem Pads.ext_port {p q : Pads} (a : Word) (hport : p.port a = q.port a) (hother : p.other a = q.other a)
    (hstrobe : p.strobe = q.strobe) : p = q := by
  obtain ⟨p1, p2, ps⟩ := p
  obtain ⟨q1, q2, qs⟩ := q
  simp only [Pads.port, Pads.other] at hport hother
  split at hport <;> simp_all

/-- A read of a port shifts it and leaves the other port and the strobe alone (62_apu_io.md R1081). -/
theorem State.busRead_port (s : State) {a : Word} (ha : a = 0x4016 ∨ a = 0x4017) :
    (s.busRead a).1.getLsbD 0 = ((s.pads.port a).shift s.pads.strobe).1 ∧
    (s.busRead a).2.pads.port a = ((s.pads.port a).shift s.pads.strobe).2 ∧
    (s.busRead a).2.pads.other a = s.pads.other a ∧ (s.busRead a).2.pads.strobe = s.pads.strobe := by
  obtain rfl | rfl := ha
  · have hpads : (s.busRead 0x4016).2.pads = { s.pads with pad1 := (s.pads.pad1.shift s.pads.strobe).2 } := by
      rw [show s.busRead 0x4016 = s.readPort1 from rfl, State.readPort1, State.drive_pads]
    rw [hpads]
    exact ⟨State.drive_bit0 _ _, rfl, rfl, rfl⟩
  · have hpads : (s.busRead 0x4017).2.pads = { s.pads with pad2 := (s.pads.pad2.shift s.pads.strobe).2 } := by
      rw [show s.busRead 0x4017 = s.readPort2 from rfl, State.readPort2, State.drive_pads]
    rw [hpads]
    exact ⟨State.drive_bit0 _ _, rfl, rfl, rfl⟩

/-- Raising and lowering the strobe latches both ports (62_apu_io.md R1080). -/
theorem Pads.write_strobe (p : Pads) {up down : Byte} (hup : up.getLsbD 0 = true) (hdown : down.getLsbD 0 = false) :
    p.write up = ⟨p.pad1.latch, p.pad2.latch, true⟩ ∧ (p.write up).write down = ⟨p.pad1.latch, p.pad2.latch, false⟩ := by
  have hraised : p.write up = ⟨p.pad1.latch, p.pad2.latch, true⟩ := if_pos hup
  refine ⟨hraised, ?_⟩
  rw [hraised, Pads.write, hdown]
  rfl

/-- `n` reads of a latched port count its index up and leave the other port alone. -/
theorem State.pads_after_reads {a : Word} (ha : a = 0x4016 ∨ a = 0x4017) (t : State) (p : Pad)
    (hport : t.pads.port a = p.latch) (hstrobe : t.pads.strobe = false) (n : Nat) :
    (Nat.repeat (fun u : State => (u.busRead a).2) n t).pads.port a = { p.latch with index := n } ∧
    (Nat.repeat (fun u : State => (u.busRead a).2) n t).pads.other a = t.pads.other a ∧
    (Nat.repeat (fun u : State => (u.busRead a).2) n t).pads.strobe = false := by
  induction n with
  | zero => exact ⟨hport, rfl, hstrobe⟩
  | succ n ih =>
    obtain ⟨ihport, ihother, ihstrobe⟩ := ih
    obtain ⟨-, hport', hother', hstrobe'⟩ :=
      State.busRead_port (Nat.repeat (fun u : State => (u.busRead a).2) n t) ha
    rw [ihport, ihstrobe] at hport'
    exact ⟨hport', hother'.trans ihother, hstrobe'.trans ihstrobe⟩

/-- Settles O55: with the strobe at 1 a read shifts nothing; after it the reads count through the latched buttons
(`State.pads_after_reads`). -/
theorem controllerReads : Obligations.ControllerReads := by
  unfold Obligations.ControllerReads
  intro s a up down j k hup hdown ha
  obtain ⟨hraised, hlowered⟩ := s.pads.write_strobe hup hdown
  have hport (strobe : Bool) : Pads.port ⟨s.pads.pad1.latch, s.pads.pad2.latch, strobe⟩ a = (s.pads.port a).latch := by
    simp only [Pads.port]
    split <;> rfl
  have hraised : (s.busWrite 0x4016 up j).pads = ⟨s.pads.pad1.latch, s.pads.pad2.latch, true⟩ := hraised
  have hlowered : ((s.busWrite 0x4016 up j).busWrite 0x4016 down k).pads =
    ⟨s.pads.pad1.latch, s.pads.pad2.latch, false⟩ := hlowered
  dsimp only
  generalize (s.busWrite 0x4016 up j).busWrite 0x4016 down k = t at hlowered ⊢
  generalize s.busWrite 0x4016 up j = r at hraised ⊢
  constructor
  · obtain ⟨hbit, hread, hother, hstrobe⟩ := r.busRead_port ha
    rw [hraised, hport] at hbit hread
    refine ⟨hbit, Pads.ext_port a ?_ hother hstrobe⟩
    rw [hread, hraised, hport]
    rfl
  · intro n
    obtain ⟨hpad, hother, hstrobe⟩ := State.pads_after_reads ha t (s.pads.port a) (by rw [hlowered, hport])
      (by rw [hlowered]) n
    refine ⟨?_, hother⟩
    rw [(State.busRead_port _ ha).1, hpad, hstrobe]
    rfl

end Sys2Proof.Machine
end

section
/-! PROOFS. The mappers (63_mappers.md): MMC1's serial port (R1132), missing capabilities (R1122), MMC3's A12 filter and
scanline counter (R1142, R1143), and MMC5 on the CPU bus (R1172–R1174, R1184; 20_memory.md R202). -/

namespace Sys2Proof.Machine

/-! ## MMC1's serial port -/

/-- The bit a write shifts into MMC1: bit 0 of the byte. -/
def serialBit (d : Byte) : BitVec 5 := d.setWidth 5 &&& 1

theorem serialBit_eq (d : Byte) : serialBit d = BitVec.ofNat 5 (d.toNat % 2) := by
  revert d; decide

/-- A write that neither resets nor completes the shift register. -/
theorem Mmc1.write_shift (r : Mmc1) (a : Word) {d : Byte} (hd : d.getLsbD 7 = false) (hn : r.srN < 4) :
    r.write a d false = { r with sr := r.sr ||| (serialBit d <<< r.srN), srN := r.srN + 1 } := by
  have hfive : ¬r.srN + 1 = 5 := by omega
  rw [Mmc1.write, hd]
  exact if_neg hfive

/-- The register that address bits 14–13 select takes the five collected bits (63_mappers.md R1132). -/
def Mmc1.latchInto (r : Mmc1) (k : Nat) (value : BitVec 5) : Mmc1 :=
  match k with
  | 0 => { r with control := value }
  | 1 => { r with chr0 := value }
  | 2 => { r with chr1 := value }
  | _ => { r with prg := value }

/-- The fifth write empties the shift register and latches its bits. -/
theorem Mmc1.write_fifth (r : Mmc1) (a : Word) {d : Byte} (hd : d.getLsbD 7 = false) (hn : r.srN = 4) :
    r.write a d false =
      Mmc1.latchInto { r with sr := 0, srN := 0 } (a.toNat / 8192 % 4) (r.sr ||| (serialBit d <<< 4)) := by
  have hselect : (a.extractLsb' 13 2).toNat = a.toNat / 8192 % 4 := by
    rw [BitVec.extractLsb'_toNat, Nat.shiftRight_eq_div_pow]
  rw [Mmc1.write, hd, hn, ← hselect]
  rfl

/-- Five bits shifted in, first write lowest, as a number. -/
theorem serial_value (d0 d1 d2 d3 d4 : Byte) :
    (((((0 : BitVec 5) ||| (serialBit d0 <<< 0)) ||| (serialBit d1 <<< 1)) ||| (serialBit d2 <<< 2)) ||| (serialBit d3 <<< 3)) |||
      (serialBit d4 <<< 4) = BitVec.ofNat 5
        (d0.toNat % 2 + 2 * (d1.toNat % 2) + 4 * (d2.toNat % 2) + 8 * (d3.toNat % 2) + 16 * (d4.toNat % 2)) := by
  have hbits : ∀ b0 b1 b2 b3 b4 : Fin 2,
      (((((0 : BitVec 5) ||| (BitVec.ofNat 5 b0 <<< 0)) ||| (BitVec.ofNat 5 b1 <<< 1)) ||| (BitVec.ofNat 5 b2 <<< 2)) |||
        (BitVec.ofNat 5 b3 <<< 3)) ||| (BitVec.ofNat 5 b4 <<< 4) =
      BitVec.ofNat 5 (b0 + 2 * b1 + 4 * b2 + 8 * b3 + 16 * b4) := by decide
  simp only [serialBit_eq]
  exact hbits ⟨_, Nat.mod_lt _ Nat.two_pos⟩ ⟨_, Nat.mod_lt _ Nat.two_pos⟩ ⟨_, Nat.mod_lt _ Nat.two_pos⟩
    ⟨_, Nat.mod_lt _ Nat.two_pos⟩ ⟨_, Nat.mod_lt _ Nat.two_pos⟩

/-- Settles O56: four shifts (`Mmc1.write_shift`) and the fifth write (`Mmc1.write_fifth`). -/
theorem mmc1Serial : Obligations.Mmc1Serial := by
  unfold Obligations.Mmc1Serial
  refine ⟨fun r a d => ⟨rfl, fun hd => ?_⟩, ?_⟩
  · rw [Mmc1.write, hd]
    rfl
  intro r a d0 d1 d2 d3 d4 x0 x1 x2 x3 hsr hsrN hd
  simp only [List.forall_mem_cons] at hd
  obtain ⟨h0, h1, h2, h3, h4, -⟩ := hd
  obtain ⟨sr, srN, control, chr0, chr1, prg⟩ := r
  obtain rfl : sr = 0 := hsr
  obtain rfl : srN = 0 := hsrN
  rw [Mmc1.write_shift _ x0 h0 (show 0 < 4 by decide), Mmc1.write_shift _ x1 h1 (show 1 < 4 by decide),
    Mmc1.write_shift _ x2 h2 (show 2 < 4 by decide), Mmc1.write_shift _ x3 h3 (show 3 < 4 by decide),
    Mmc1.write_fifth _ a h4 rfl]
  dsimp only
  rw [← serial_value]
  refine ⟨fun ha => ?_, fun ha => ?_, fun ha => ?_, fun ha => ?_⟩ <;> rw [ha] <;> rfl

/-! ## Capabilities and MMC3's scanline counter -/

/-- A hook whose capability is missing is skipped (63_mappers.md R1122). -/
theorem State.hook_undeclared {s : State} {declared : Caps → Bool} (call : Mapper → Mapper)
    (h : ∀ c, s.cart = some c → declared c.mapper.caps = false) : s.hook declared call = s := by
  unfold State.hook
  split
  · rename_i c hc
    rw [h c hc]
    rfl
  · rfl

/-- A clock of the scanline counter (63_mappers.md R1143): a reload ends with the request cleared, and without one none was
there. -/
theorem Mmc3.clockCounter_eq (r : Mmc3) : r.clockCounter =
    let counter := if r.irqCounter = 0 ∨ r.irqReload = true then r.irqLatch else r.irqCounter - 1
    { r with
      irqCounter := counter, irqReload := false
      irqPending := r.irqPending || (counter == 0 && r.irqCounter != 0 && r.irqEnabled) } := by
  have hreload : (if r.irqCounter = 0 ∨ r.irqReload = true then false else r.irqReload) = false := by
    split
    · rfl
    · rename_i h
      exact Bool.eq_false_iff.mpr (not_or.mp h).2
  rw [Mmc3.clockCounter, hreload]

/-- A low A12 report counts up (63_mappers.md R1142). -/
theorem Mmc3.notifyA12_low (r : Mmc3) : r.notifyA12 false = { r with a12Low := r.a12Low + 1 } := rfl

/-- A high A12 report after too few low ones is filtered out (63_mappers.md R1142). -/
theorem Mmc3.notifyA12_filtered (r : Mmc3) (h : r.a12Low < 8) : r.notifyA12 true = { r with a12Low := 0 } := by
  rw [Mmc3.notifyA12, if_pos rfl, if_neg (Nat.not_le.mpr h)]

/-- A high A12 report after eight low ones clocks the counter (63_mappers.md R1142). -/
theorem Mmc3.notifyA12_clock (r : Mmc3) (h : 8 ≤ r.a12Low) : r.notifyA12 true = { r.clockCounter with a12Low := 0 } := by
  rw [Mmc3.notifyA12, if_pos rfl, if_pos h]

/-! ## The cartridge's window of the CPU bus -/

theorem State.busRead_cart (s : State) {a : Word} (h : 0x4020 ≤ a.toNat) : s.busRead a = s.cartRead a := by
  have h2 : ¬a < 0x2000 := by bv_omega
  have h4 : ¬a < 0x4000 := by bv_omega
  have h15 : a ≠ 0x4015 := by bv_omega
  have h16 : a ≠ 0x4016 := by bv_omega
  have h17 : a ≠ 0x4017 := by bv_omega
  have h20 : ¬a < 0x4020 := by bv_omega
  rw [State.busRead, if_neg h2, if_neg h4, if_neg h15, if_neg h16, if_neg h17, if_neg h20]

theorem State.busWrite_cart (s : State) {a : Word} (h : 0x4020 ≤ a.toNat) (d : Byte) (k : Bool) :
    s.busWrite a d k = s.cartWrite a d k := by
  have h2 : ¬a < 0x2000 := by bv_omega
  have h4 : ¬a < 0x4000 := by bv_omega
  have h14 : ¬a < 0x4014 := by bv_omega
  have h14' : a ≠ 0x4014 := by bv_omega
  have h15 : a ≠ 0x4015 := by bv_omega
  have h16 : a ≠ 0x4016 := by bv_omega
  have h17 : a ≠ 0x4017 := by bv_omega
  have h20 : ¬a < 0x4020 := by bv_omega
  rw [State.busWrite, if_neg h2, if_neg h4, if_neg h14, if_neg h14', if_neg h15, if_neg h16, if_neg h17, if_neg h20]

theorem State.setCart_self {s : State} {c : Cart} (hc : s.cart = some c) : { s with cart := some c } = s := by
  rw [← hc]

/-- A cartridge read that drives every bit and changes no register is a plain read of the bus. -/
theorem State.busRead_driven {s : State} {c : Cart} (hc : s.cart = some c) {a : Word} (ha : 0x4020 ≤ a.toNat) {v : Byte}
    (h : c.cpuRead a = (.all v, c)) : s.busRead a = (v, s) := by
  rw [s.busRead_cart ha, State.cartRead, hc]
  dsimp only
  rw [h, State.setCart_self hc]
  rfl

theorem State.busWrite_cpuWrite {s : State} {c : Cart} (hc : s.cart = some c) {a : Word} (ha : 0x4020 ≤ a.toNat) (d : Byte)
    (k : Bool) : s.busWrite a d k = { s with cart := some (c.cpuWrite a d k) } := by
  rw [s.busWrite_cart ha, State.cartWrite, hc]

/-! ## MMC5 on the CPU bus -/

theorem Cart.setMapper_self {c : Cart} {m : Mapper} (hm : c.mapper = m) : { c with mapper := m } = c := by
  rw [← hm]

/-- A read of an address mapped to PRG-RAM (63_mappers.md R1103, R1172). -/
theorem Cart.cpuRead_prgRam {c : Cart} {a : Word} (ha : 0x6000 ≤ a.toNat) {j : Nat} (h : c.prgTarget a = .ram j) :
    c.cpuRead a = (.all (c.prgRam.read j), c) := by
  rw [Cart.cpuRead, if_pos (show (0x6000 : Word) ≤ a from ha), Cart.prgRead, h]

theorem Cart.cpuWrite_prgRam {c : Cart} {a : Word} (ha : 0x6000 ≤ a.toNat) {j : Nat} (h : c.prgTarget a = .ram j) (d : Byte)
    (k : Bool) : c.cpuWrite a d k =
      if c.mapper.prgRamWritable then { c with prgRam := c.prgRam.write j d } else c := by
  rw [Cart.cpuWrite, if_neg (show ¬a < 0x6000 by bv_omega), h]

/-- MMC5's PRG-RAM takes writes with the protect registers at 2 and 1 only (63_mappers.md R1172). -/
theorem Mmc5.prgRamWritable_iff (r : Mmc5) :
    (Mapper.mmc5 r).prgRamWritable = true ↔ r.protect1 = 2 ∧ r.protect2 = 1 := by
  rw [Mapper.prgRamWritable, Bool.and_eq_true, beq_iff_eq, beq_iff_eq]

/-- The reads of the multiplier (63_mappers.md R1184). -/
theorem Cart.cpuRead_multiplier {c : Cart} {r : Mmc5} (hm : c.mapper = .mmc5 r) :
    c.cpuRead 0x5205 = (.all (BitVec.ofNat 8 (r.mulA.toNat * r.mulB.toNat)), c) ∧
    c.cpuRead 0x5206 = (.all (BitVec.ofNat 8 (r.mulA.toNat * r.mulB.toNat / 256)), c) := by
  constructor
  · calc c.cpuRead 0x5205
      _ = (.all _, { c with mapper := .mmc5 r }) := by rw [Cart.cpuRead, hm]; rfl
      _ = _ := by rw [Cart.setMapper_self hm]
  · calc c.cpuRead 0x5206
      _ = (.all _, { c with mapper := .mmc5 r }) := by rw [Cart.cpuRead, hm]; rfl
      _ = _ := by rw [Cart.setMapper_self hm]

/-- What register $5110 + `reg` maps at offset `o` of its slot of `size` bytes (63_mappers.md R1174). -/
def Mmc5.regTarget (r : Mmc5) (c : Cart) (reg size o : Nat) : PrgTarget :=
  let v := (r.prgReg.toList.getD (reg - 3) 0).toNat
  let bank := v % 128 / (size / 8192) * (size / 8192)
  if reg = 7 ∨ (reg ≠ 3 ∧ 128 ≤ v) then .rom ((bank * 8192 + o) % c.prgSize) else .ram ((bank % 8 * 8192 + o) % 65536)

theorem Mmc5.slot_eq (r : Mmc5) (c : Cart) (k units o : Nat) :
    r.slot c k units o = r.regTarget c (k + 3) (units * 8192) o := by
  have hbit (v : Byte) : v.getLsbD 7 = true ↔ 128 ≤ v.toNat := by
    revert v; decide
  have hbank (v : Byte) : (v.extractLsb' 0 7).toNat = v.toNat % 128 := by
    rw [BitVec.extractLsb'_toNat]
    rfl
  have h7 : k + 3 = 7 ↔ k = 4 := by omega
  have h3 : k + 3 ≠ 3 ↔ k ≠ 0 := by omega
  simp only [Mmc5.slot, Mmc5.regTarget, hbit, hbank, h7, h3, Nat.add_sub_cancel, Nat.mul_div_cancel _ (show 0 < 8192 by decide),
    Cart.prgIndex]

/-- The slots' registers, sizes and starts (63_mappers.md R1173). -/
theorem Mmc5.prgTarget_eq (r : Mmc5) (c : Cart) (a : Word) (h : 0x6000 ≤ a.toNat) : r.prgTarget c a =
    if a.toNat < 0x8000 then r.regTarget c 3 8192 (a.toNat - 0x6000)
    else if r.prgMode = 0 then r.regTarget c 7 32768 (a.toNat - 0x8000)
    else if r.prgMode = 1 then
      (if a.toNat < 0xC000 then r.regTarget c 5 16384 (a.toNat - 0x8000) else r.regTarget c 7 16384 (a.toNat - 0xC000))
    else if r.prgMode = 2 ∧ a.toNat < 0xC000 then r.regTarget c 5 16384 (a.toNat - 0x8000)
    else if a.toNat < 0xA000 then r.regTarget c 4 8192 (a.toNat - 0x8000)
    else if a.toNat < 0xC000 then r.regTarget c 5 8192 (a.toNat - 0xA000)
    else if a.toNat < 0xE000 then r.regTarget c 6 8192 (a.toNat - 0xC000)
    else r.regTarget c 7 8192 (a.toNat - 0xE000) := by
  have hmode : ∀ m : BitVec 2, m = 0 ∨ m = 1 ∨ m = 2 ∨ m = 3 := by decide
  have hslot (k units : Nat) (start : Word) (hstart : start.toNat ≤ a.toNat) :
      r.slot c k units (a - start).toNat = r.regTarget c (k + 3) (units * 8192) (a.toNat - start.toNat) := by
    rw [r.slot_eq, BitVec.toNat_sub_of_le hstart]
  unfold Mmc5.prgTarget
  by_cases h8 : a.toNat < 0x8000
  · rw [if_pos (show a < 0x8000 from h8), if_pos h8]
    exact hslot 0 1 0x6000 h
  have hge8 : 0x8000 ≤ a.toNat := Nat.not_lt.mp h8
  rw [if_neg (show ¬a < 0x8000 from h8), if_neg h8]
  obtain hm | hm | hm | hm := hmode r.prgMode <;> rw [hm]
  · exact hslot 4 4 0x8000 hge8
  · rw [if_neg (show ¬(1 : BitVec 2) = 0 by decide), if_pos (show (1 : BitVec 2) = 1 from rfl)]
    by_cases hC : a.toNat < 0xC000
    · rw [if_pos hC]
      exact (if_pos hC).trans (hslot 2 2 0x8000 hge8)
    · rw [if_neg hC]
      exact (if_neg hC).trans (hslot 4 2 0xC000 (Nat.not_lt.mp hC))
  · rw [if_neg (show ¬(2 : BitVec 2) = 0 by decide), if_neg (show ¬(2 : BitVec 2) = 1 by decide)]
    by_cases hC : a.toNat < 0xC000
    · rw [if_pos (show (2 : BitVec 2) = 2 ∧ a.toNat < 0xC000 from ⟨rfl, hC⟩)]
      exact (if_pos hC).trans (hslot 2 2 0x8000 hge8)
    have hA : ¬a.toNat < 0xA000 := by omega
    rw [if_neg (show ¬((2 : BitVec 2) = 2 ∧ a.toNat < 0xC000) from fun h => hC h.2), if_neg hA, if_neg hC]
    refine (if_neg hC).trans ?_
    by_cases hE : a.toNat < 0xE000
    · rw [if_pos hE]
      exact (if_pos hE).trans (hslot 3 1 0xC000 (Nat.not_lt.mp hC))
    · rw [if_neg hE]
      exact (if_neg hE).trans (hslot 4 1 0xE000 (Nat.not_lt.mp hE))
  · rw [if_neg (show ¬(3 : BitVec 2) = 0 by decide), if_neg (show ¬(3 : BitVec 2) = 1 by decide),
      if_neg (show ¬((3 : BitVec 2) = 2 ∧ a.toNat < 0xC000) from fun h => absurd h.1 (by decide))]
    by_cases hA : a.toNat < 0xA000
    · rw [if_pos hA]
      exact (if_pos hA).trans (hslot 1 1 0x8000 hge8)
    rw [if_neg hA]
    refine (if_neg hA).trans ?_
    by_cases hC : a.toNat < 0xC000
    · rw [if_pos hC]
      exact (if_pos hC).trans (hslot 2 1 0xA000 (Nat.not_lt.mp hA))
    rw [if_neg hC]
    refine (if_neg hC).trans ?_
    by_cases hE : a.toNat < 0xE000
    · rw [if_pos hE]
      exact (if_pos hE).trans (hslot 3 1 0xC000 (Nat.not_lt.mp hC))
    · rw [if_neg hE]
      exact (if_neg hE).trans (hslot 4 1 0xE000 (Nat.not_lt.mp hE))

/-- Settles O57: `State.hook_undeclared`; `Mmc3.notifyA12_low`, `Mmc3.notifyA12_filtered` and `Mmc3.notifyA12_clock`; MMC5's
multiplier, PRG-RAM and slots (`Cart.cpuRead_multiplier`, `Cart.cpuRead_prgRam`, `Cart.cpuWrite_prgRam`,
`Mmc5.prgTarget_eq`) through the cartridge's window. -/
theorem mapperRules : Obligations.MapperRules := by
  unfold Obligations.MapperRules
  refine ⟨fun s declared call h => State.hook_undeclared call h, fun r => ⟨r.notifyA12_low, r.notifyA12_filtered, fun h => ?_⟩,
    fun s c r hc hm => ⟨?_, fun a d k ha => ⟨fun j hj => ⟨?_, fun hopen => ?_, fun hclosed => ?_⟩, ?_⟩⟩⟩
  · rw [r.notifyA12_clock h, r.clockCounter_eq]
  · obtain ⟨hlow, hhigh⟩ := Cart.cpuRead_multiplier hm
    exact ⟨State.busRead_driven hc (by decide) hlow, State.busRead_driven hc (by decide) hhigh⟩
  · exact State.busRead_driven hc (by omega) (Cart.cpuRead_prgRam ha hj)
  · have hwrite : c.cpuWrite a d k = { c with prgRam := c.prgRam.write j d } := by
      rw [Cart.cpuWrite_prgRam ha hj, if_pos (by rw [hm]; exact r.prgRamWritable_iff.mpr hopen)]
    exact ⟨hwrite, by rw [State.busWrite_cpuWrite hc (by omega), hwrite]⟩
  · have hwrite : c.cpuWrite a d k = c := by
      rw [Cart.cpuWrite_prgRam ha hj, if_neg (by rw [hm]; exact mt r.prgRamWritable_iff.mp hclosed)]
    exact ⟨hwrite, by rw [State.busWrite_cpuWrite hc (by omega), hwrite, State.setCart_self hc]⟩
  · rw [Cart.prgTarget, hm]
    exact r.prgTarget_eq c a ha

end Sys2Proof.Machine
end

section
/-! PROOFS. Power-on and the host's reset (70_reset_and_hazards.md R1300, R1301, R1320–R1325) and the image that loads
(63_mappers.md R1100–R1104, R1131, R1140, R1150–R1155, R1160, R1188). -/

namespace Sys2Proof.Machine

/-! ## Power-on -/

/-- At power-on everything outside the OPEN memories and the cartridge meets the invariant. -/
theorem State.powerOn_inv {p : PowerOn} {params : Params} {cart : Option Cart} (hram : p.ram.Within 2048)
    (hciram : p.ciram.Within 2048) (hpalette : p.palette.Within 32) (hoam : p.oam.Within 256)
    (hcart : ∀ c, cart = some c → c.Inv) : (State.powerOn p params cart).Inv := by
  have hppu : (Ppu.powerOn p).Inv :=
    ⟨⟨hciram, hpalette, hoam, Store.within_nil _, Store.within_nil _⟩, Nat.zero_le _, Nat.zero_le _, Nat.zero_le _,
      fun _ he => nomatch he⟩
  have hapu : Apu.powerOn.Inv :=
    ⟨show (1 : BitVec 15) ≠ 0 by decide, show 1 ≤ 8 ∧ 8 ≤ 8 by decide, Nat.zero_le _, Nat.zero_le _⟩
  exact ⟨hram, hppu, hapu, hcart⟩

/-- Settles O42: reset is a power-on with empty memories and no cartridge. -/
theorem resetHasInv : Obligations.ResetHasInv := by
  unfold Obligations.ResetHasInv
  exact State.powerOn_inv (Store.within_nil _) (Store.within_nil _) (Store.within_nil _) (Store.within_nil _)
    (fun _ hc => nomatch hc)

/-- Settles O58: each field of the power-on state is the value the rule states. -/
theorem powerOnValues : Obligations.PowerOnValues := by
  unfold Obligations.PowerOnValues
  intro p params c
  refine ⟨⟨rfl, rfl, rfl, rfl, rfl, rfl⟩, ⟨rfl, rfl, rfl, rfl, rfl, rfl, rfl, rfl, rfl, rfl, rfl, rfl, rfl⟩,
    ⟨rfl, rfl, rfl, rfl, rfl, rfl, rfl, rfl, rfl, rfl, rfl, rfl, rfl, rfl, rfl, rfl, rfl, rfl, fun _ => rfl, rfl⟩,
    ⟨rfl, rfl⟩, rfl, rfl, rfl, rfl, rfl, rfl, rfl, rfl⟩

/-! ## The host's reset -/

theorem Ppu.hostReset_idem (p : Ppu) : p.hostReset.hostReset = p.hostReset := rfl

/-- The APU's reset is the enable write of 0 with the frame counter's IRQ and count cleared (70_reset_and_hazards.md R1323). -/
theorem Apu.hostReset_eq (u : Apu) : u.hostReset = { u with
    p1 := { u.p1 with enabled := false, length := 0 }
    p2 := { u.p2 with enabled := false, length := 0 }
    tri := { u.tri with enabled := false, length := 0 }
    noise := { u.noise with enabled := false, length := 0 }
    dmc := { u.dmc with remaining := 0, irq := false }
    frame := { u.frame with irq := false, cycle := 0 } } := rfl

theorem Apu.hostReset_idem (u : Apu) : u.hostReset.hostReset = u.hostReset := rfl

/-- Settles O59: the PPU's and the APU's reset, both idempotent. -/
theorem hostReset : Obligations.HostReset := by
  unfold Obligations.HostReset
  intro s
  refine ⟨rfl, s.apu.hostReset_eq, rfl, ?_⟩
  rw [State.hostReset, State.hostReset]
  dsimp only
  rw [Ppu.hostReset_idem, Apu.hostReset_idem]

/-! ## An image that loads -/

/-- The mappers at power-on (63_mappers.md R1101). -/
def Mapper.powerOns : List Mapper :=
  [.nrom, .mmc1 .powerOn, .uxrom 0, .cnrom 0, .mmc3 .powerOn, .mmc5 .powerOn, .axrom 0 false, .mmc2 .powerOn, .mmc4 .powerOn,
    .colorDreams 0 0, .bnrom 0, .gxrom 0 0]

theorem Mapper.forall_powerOns {P : Mapper → Prop} : (∀ m ∈ Mapper.powerOns, P m) ↔
    P .nrom ∧ P (.mmc1 .powerOn) ∧ P (.uxrom 0) ∧ P (.cnrom 0) ∧ P (.mmc3 .powerOn) ∧ P (.mmc5 .powerOn) ∧
      P (.axrom 0 false) ∧ P (.mmc2 .powerOn) ∧ P (.mmc4 .powerOn) ∧ P (.colorDreams 0 0) ∧ P (.bnrom 0) ∧
      P (.gxrom 0 0) := by
  simp only [Mapper.powerOns, List.forall_mem_cons, List.not_mem_nil, false_imp_iff, implies_true, and_true]

theorem Mapper.powerOn_mem {n : Nat} {m : Mapper} (h : Mapper.powerOn n = some m) : m ∈ Mapper.powerOns := by
  unfold Mapper.powerOn at h
  split at h
  case h_13 => cases h
  all_goals
    injection h with h
    subst h
    decide

/-- What an image that parses gives (63_mappers.md R1100, R1101, R1103, R1104): PRG-ROM of positive size from a slice of the
image, CHR from a slice or CHR-RAM, the OPEN contents, and a mapper at power-on. -/
structure Cart.Parsed (init : CartInit) (c : Cart) : Prop where
  prgSize_pos : 0 < c.prgSize
  prg : ∃ l : List Byte, l.length ≤ c.prgSize ∧ c.prg = .ofList 0 l
  chrRam : c.chrIsRam = true → c.chrSize = 8192 ∧ c.chr = init.chrRam
  chrRom : c.chrIsRam = false → 0 < c.chrSize ∧ ∃ l : List Byte, l.length ≤ c.chrSize ∧ c.chr = .ofList 0 l
  prgRam : c.prgRam = init.prgRam
  vram : c.vram = init.vram
  mapper : c.mapper ∈ Mapper.powerOns

theorem Cart.parsed_of_parse {init : CartInit} {b : List Byte} {c : Cart} (h : Cart.parse init b = .ok c) :
    c.Parsed init := by
  unfold Cart.parse at h
  dsimp only at h
  generalize 16 + (if (b.getD 6 0).getLsbD 2 then 512 else 0) = offset at h
  generalize 16384 * (b.getD 4 0).toNat = prgSize at h
  generalize 8192 * (b.getD 5 0).toNat = chrSize at h
  split at h
  · cases h
  split at h
  · cases h
  rename_i hprg
  split at h
  · cases h
  split at h
  · cases h
  rename_i m hm
  injection h with h
  subst h
  constructor
  case prgSize_pos => exact Nat.pos_of_ne_zero hprg
  case prg => exact ⟨_, List.length_take_le _ _, rfl⟩
  case chrRam =>
    intro hchr
    have hchr : chrSize = 0 := of_decide_eq_true hchr
    exact ⟨if_pos hchr, if_pos hchr⟩
  case chrRom =>
    intro hchr
    have hchr : chrSize ≠ 0 := of_decide_eq_false hchr
    dsimp only
    rw [if_neg hchr, if_neg hchr]
    exact ⟨Nat.pos_of_ne_zero hchr, _, List.length_take_le _ _, rfl⟩
  case prgRam => rfl
  case vram => rfl
  case mapper => exact Mapper.powerOn_mem hm

theorem State.loadImage_ok {p : PowerOn} {init : CartInit} {params : Params} {image : List Byte} {s : State}
    (h : State.loadImage p init params image = .ok s) :
    ∃ c, Cart.parse init image = .ok c ∧ s = State.powerOn p params (some c) := by
  unfold State.loadImage at h
  split at h
  · rename_i c hc
    injection h with h
    exact ⟨c, hc, h.symm⟩
  · cases h

/-- Storage made from a list that fits is within its size. -/
theorem Store.ofList_within {w n : Nat} {l : List (BitVec w)} (h : l.length ≤ n) : (Store.ofList 0 l).Within n := by
  refine ⟨Store.wf_ofList _ _, (Store.below_iff ..).mpr fun e he => ?_⟩
  have hlt := (Store.mem_ofList 0 l e he).2
  omega

/-- Every mapper's power-on registers meet its invariant. -/
theorem Mapper.powerOns_inv : ∀ m ∈ Mapper.powerOns, m.Inv :=
  Mapper.forall_powerOns.mpr ⟨trivial, Nat.zero_le 4, trivial, trivial, trivial, Store.within_nil 1024, trivial, trivial,
    trivial, trivial, trivial, trivial⟩

/-- A cartridge that parsed meets the invariant when the OPEN contents are within their sizes. -/
theorem Cart.Parsed.inv {init : CartInit} {c : Cart} (h : c.Parsed init) (hprgRam : init.prgRam.Within c.mapper.prgRamSize)
    (hchrRam : init.chrRam.Within 8192) (hvram : init.vram.Within 2048) : c.Inv := by
  have hprg : c.prg.Within c.prgSize := by
    obtain ⟨l, hl, hprg⟩ := h.prg
    exact hprg ▸ Store.ofList_within hl
  have hchr : 0 < c.chrSize ∧ c.chr.Within c.chrSize := by
    cases hram : c.chrIsRam with
    | true =>
      obtain ⟨hsize, hchr⟩ := h.chrRam hram
      rw [hsize, hchr]
      exact ⟨by decide, hchrRam⟩
    | false =>
      obtain ⟨hpos, l, hl, hchr⟩ := h.chrRom hram
      exact ⟨hpos, hchr ▸ Store.ofList_within hl⟩
  exact ⟨⟨h.prgSize_pos, hprg⟩, hchr, h.prgRam ▸ hprgRam, h.vram ▸ hvram, Mapper.powerOns_inv _ h.mapper⟩

/-- Settles O43: the loaded state is a power-on state (`State.powerOn_inv`) whose cartridge parsed (`Cart.Parsed.inv`). -/
theorem loadedHasInv : Obligations.LoadedHasInv := by
  unfold Obligations.LoadedHasInv
  intro p init params image s hram hciram hpalette hoam hprgRam hchrRam hvram h
  obtain ⟨c, hc, rfl⟩ := State.loadImage_ok h
  refine State.powerOn_inv hram hciram hpalette hoam fun c' hc' => ?_
  obtain rfl : c = c' := Option.some.inj hc'
  exact (Cart.parsed_of_parse hc).inv (hprgRam c hc) hchrRam hvram

/-- Settles O60: the cartridge of the loaded state parsed, so its mapper is one of the twelve at power-on. -/
theorem loadedMapperValues : Obligations.LoadedMapperValues := by
  unfold Obligations.LoadedMapperValues
  intro p init params image s h
  obtain ⟨c, hc, hs⟩ := State.loadImage_ok h
  have hparsed := Cart.parsed_of_parse hc
  have hmapper := hparsed.mapper
  refine ⟨c, hs, hparsed.prgRam, fun hram => (hparsed.chrRam hram).2, ?_⟩
  revert hmapper
  generalize c.mapper = m
  revert m
  exact Mapper.forall_powerOns.mpr
    ⟨trivial, rfl, rfl, rfl, rfl, rfl, ⟨rfl, rfl⟩, rfl, rfl, ⟨rfl, rfl⟩, rfl, ⟨rfl, rfl⟩⟩

end Sys2Proof.Machine
end
